-- ==== Sys2Proof/Word.lean ====
section
/-! DEFINITION. The three bit-vector types of the 8088 core: a byte, a 16-bit word (every register, offset and
segment) and a 20-bit physical address (00_scope.md rules R9 and R11). -/

namespace Sys2Proof

/-- A byte: the memory granule and an 8-bit register half (R9). -/
abbrev Byte := BitVec 8

/-- A 16-bit word: every general, segment and pointer register, offset and port address (R9). -/
abbrev Word := BitVec 16

/-- A 20-bit physical address (R9, R43). -/
abbrev Addr := BitVec 20

end Sys2Proof
end

