-- ==== Sys2Proof/Syntax/Operand.lean ====
section
/-! DEFINITION. The operand shapes of the 8088's instructions: register names, memory operands as the ModRM byte
encodes them, and one form type per mnemonic that has several rows in spec/opcode_table.json. -/

namespace Sys2Proof

/-- The 16-bit general registers, in their order of numbers 0..7 (10_state.md R20). -/
inductive Reg16 where
  | ax | cx | dx | bx | sp | bp | si | di
  deriving DecidableEq, Repr

/-- The 8-bit halves, in their order of numbers 0..7 (10_state.md R21). -/
inductive Reg8 where
  | al | cl | dl | bl | ah | ch | dh | bh
  deriving DecidableEq, Repr

/-- The segment registers, in their order of numbers 0..3 (10_state.md R23). -/
inductive SReg where
  | es | cs | ss | ds
  deriving DecidableEq, Repr

/-- The base and index combinations, in their order of `r/m` 0..7 (30_encoding.md R66). `bp` alone has no
`mod = 00` form: that place of the table is the direct address. -/
inductive Base where
  | bxSi | bxDi | bpSi | bpDi | si | di | bp | bx
  deriving DecidableEq, Repr

/-- A memory operand as the ModRM byte and its displacement give it (30_encoding.md R65, R66): no displacement,
the 16-bit direct address, a sign-extended byte, or a word. -/
inductive Mem where
  | base (b : Base)
  | direct (d : Word)
  | disp8 (b : Base) (d : Byte)
  | disp16 (b : Base) (d : Word)
  deriving DecidableEq, Repr

/-- A ModRM `r/m` operand: a register (`mod = 11`) or memory (30_encoding.md R65). -/
inductive Rm (R : Type) where
  | reg (r : R)
  | mem (m : Mem)
  deriving DecidableEq, Repr

/-- `Eb` (30_encoding.md R70). -/
abbrev Rm8 := Rm Reg8

/-- `Ev` and `Ew` (30_encoding.md R70). -/
abbrev Rm16 := Rm Reg16

/-- The ten operand forms of a two-operand ALU instruction (41_arithmetic.md R104): opcodes `b+0 .. b+5`, then
80h, 81h, 82h and 83h (`evIs`: the byte is sign-extended). -/
inductive AluForm where
  | ebGb (e : Rm8) (g : Reg8)
  | evGv (e : Rm16) (g : Reg16)
  | gbEb (g : Reg8) (e : Rm8)
  | gvEv (g : Reg16) (e : Rm16)
  | alIb (i : Byte)
  | axIv (i : Word)
  | ebIb (e : Rm8) (i : Byte)
  | evIv (e : Rm16) (i : Word)
  | ebIb82 (e : Rm8) (i : Byte)
  | evIs (e : Rm16) (i : Byte)
  deriving DecidableEq, Repr

/-- The eight MOV rows that share the mnemonic MOV: 88h..8Bh (40_data_transfer.md R80) and the direct-address forms
A0h..A3h (R83). -/
inductive MovForm where
  | ebGb (e : Rm8) (g : Reg8)
  | evGv (e : Rm16) (g : Reg16)
  | gbEb (g : Reg8) (e : Rm8)
  | gvEv (g : Reg16) (e : Rm16)
  | alOb (off : Word)
  | axOv (off : Word)
  | obAl (off : Word)
  | ovAx (off : Word)
  deriving DecidableEq, Repr

/-- The six TEST rows: 84h, 85h, A8h, A9h, F6h /0, F7h /0 (42_logic_shift.md R128). -/
inductive TestForm where
  | ebGb (e : Rm8) (g : Reg8)
  | evGv (e : Rm16) (g : Reg16)
  | alIb (i : Byte)
  | axIv (i : Word)
  | ebIb (e : Rm8) (i : Byte)
  | evIv (e : Rm16) (i : Word)
  deriving DecidableEq, Repr

/-- XCHG 86h (`b`) and 87h (`w`) (40_data_transfer.md R92). -/
inductive XchgForm where
  | b (e : Rm8) (g : Reg8)
  | w (e : Rm16) (g : Reg16)
  deriving DecidableEq, Repr

/-- A one-operand byte (`b`) or word (`w`) form, such as F6h / F7h (30_encoding.md R74). -/
inductive RmForm where
  | b (e : Rm8)
  | w (e : Rm16)
  deriving DecidableEq, Repr

/-- A byte or word register/memory operand with an immediate of its width (F6h /1 and F7h /1). -/
inductive RmImm where
  | b (e : Rm8) (i : Byte)
  | w (e : Rm16) (i : Word)
  deriving DecidableEq, Repr

/-- The four shift and rotate rows: D0h, D1h (count 1), D2h, D3h (count CL) (42_logic_shift.md R130). -/
inductive ShiftForm where
  | eb1 (e : Rm8)
  | ev1 (e : Rm16)
  | ebCl (e : Rm8)
  | evCl (e : Rm16)
  deriving DecidableEq, Repr

/-- The four IN and OUT rows: an immediate port (byte, word) or the port in DX (byte, word)
(40_data_transfer.md R95, R96). -/
inductive PortForm where
  | immB (p : Byte)
  | immW (p : Byte)
  | dxB
  | dxW
  deriving DecidableEq, Repr

/-- The four instructions that share F6h / F7h with `reg` 4..7 (30_encoding.md R74). -/
inductive MulDivOp where
  | mul | imul | div | idiv
  deriving DecidableEq, Repr

/-- Which repeat prefix: F3h (`repe`) or F2h (`repne`) (30_encoding.md R63). -/
inductive RepKind where
  | repe | repne
  deriving DecidableEq, Repr

end Sys2Proof
end

