-- ==== Sys2Proof/Syntax.lean ====
section
/-! DEFINITION. The instruction set: one constructor per mnemonic of spec/opcode_table.json, its operand forms (the rows
of one mnemonic) as arguments. A prefix byte is a constructor of its own: it is decoded and run before the instruction it
stands in front of (30_encoding.md R71). -/

namespace Sys2Proof

/-- An instruction of the 8088, or one of its prefix bytes. -/
inductive Instr where
  -- Data transfer (40_data_transfer.md)
  /-- MOV between register and register/memory, and accumulator and direct address (R80, R83). -/
  | mov (f : MovForm)
  /-- MOV byte immediate, C6h /0 (R81). -/
  | movEbIb (e : Rm8) (i : Byte)
  /-- MOV word immediate, C7h /0 (R81). -/
  | movEvIv (e : Rm16) (i : Word)
  /-- MOV AL,Ib, B0h (R82). -/
  | movAlIb (i : Byte)
  /-- MOV CL,Ib, B1h (R82). -/
  | movClIb (i : Byte)
  /-- MOV DL,Ib, B2h (R82). -/
  | movDlIb (i : Byte)
  /-- MOV BL,Ib, B3h (R82). -/
  | movBlIb (i : Byte)
  /-- MOV AH,Ib, B4h (R82). -/
  | movAhIb (i : Byte)
  /-- MOV CH,Ib, B5h (R82). -/
  | movChIb (i : Byte)
  /-- MOV DH,Ib, B6h (R82). -/
  | movDhIb (i : Byte)
  /-- MOV BH,Ib, B7h (R82). -/
  | movBhIb (i : Byte)
  /-- MOV AX,Iv, B8h (R82). -/
  | movAxIv (i : Word)
  /-- MOV CX,Iv, B9h (R82). -/
  | movCxIv (i : Word)
  /-- MOV DX,Iv, BAh (R82). -/
  | movDxIv (i : Word)
  /-- MOV BX,Iv, BBh (R82). -/
  | movBxIv (i : Word)
  /-- MOV SP,Iv, BCh (R82). -/
  | movSpIv (i : Word)
  /-- MOV BP,Iv, BDh (R82). -/
  | movBpIv (i : Word)
  /-- MOV SI,Iv, BEh (R82). -/
  | movSiIv (i : Word)
  /-- MOV DI,Iv, BFh (R82). -/
  | movDiIv (i : Word)
  /-- MOV Ew,Sw, 8Ch /0../3 (R84). -/
  | movEwSw (e : Rm16) (r : SReg)
  /-- MOV ES,Ew, 8Eh /0 (R85). -/
  | movEsEw (e : Rm16)
  /-- MOV SS,Ew, 8Eh /2 (R85). -/
  | movSsEw (e : Rm16)
  /-- MOV DS,Ew, 8Eh /3 (R85). -/
  | movDsEw (e : Rm16)
  /-- PUSH AX, 50h (R86). -/
  | pushAx
  /-- PUSH CX, 51h (R86). -/
  | pushCx
  /-- PUSH DX, 52h (R86). -/
  | pushDx
  /-- PUSH BX, 53h (R86). -/
  | pushBx
  /-- PUSH SP, 54h (R86). -/
  | pushSp
  /-- PUSH BP, 55h (R86). -/
  | pushBp
  /-- PUSH SI, 56h (R86). -/
  | pushSi
  /-- PUSH DI, 57h (R86). -/
  | pushDi
  /-- PUSH ES, 06h (R87). -/
  | pushEs
  /-- PUSH CS, 0Eh (R87). -/
  | pushCs
  /-- PUSH SS, 16h (R87). -/
  | pushSs
  /-- PUSH DS, 1Eh (R87). -/
  | pushDs
  /-- PUSH Ev, FFh /6 (R88). -/
  | pushEv (e : Rm16)
  /-- POP AX, 58h (R89). -/
  | popAx
  /-- POP CX, 59h (R89). -/
  | popCx
  /-- POP DX, 5Ah (R89). -/
  | popDx
  /-- POP BX, 5Bh (R89). -/
  | popBx
  /-- POP SP, 5Ch (R89). -/
  | popSp
  /-- POP BP, 5Dh (R89). -/
  | popBp
  /-- POP SI, 5Eh (R89). -/
  | popSi
  /-- POP DI, 5Fh (R89). -/
  | popDi
  /-- POP ES, 07h (R90). -/
  | popEs
  /-- POP SS, 17h (R90). -/
  | popSs
  /-- POP DS, 1Fh (R90). -/
  | popDs
  /-- POP Ev, 8Fh /0 (R91). -/
  | popEv (e : Rm16)
  /-- XCHG register/memory with register, 86h and 87h (R92). -/
  | xchg (f : XchgForm)
  /-- XCHG AX,CX, 91h (R93). -/
  | xchgAxCx
  /-- XCHG AX,DX, 92h (R93). -/
  | xchgAxDx
  /-- XCHG AX,BX, 93h (R93). -/
  | xchgAxBx
  /-- XCHG AX,SP, 94h (R93). -/
  | xchgAxSp
  /-- XCHG AX,BP, 95h (R93). -/
  | xchgAxBp
  /-- XCHG AX,SI, 96h (R93). -/
  | xchgAxSi
  /-- XCHG AX,DI, 97h (R93). -/
  | xchgAxDi
  /-- XLAT, D7h (R94). -/
  | xlat
  /-- IN, E4h E5h ECh EDh (R95). -/
  | inp (f : PortForm)
  /-- OUT, E6h E7h EEh EFh (R96). -/
  | outp (f : PortForm)
  /-- LEA Gv,M, 8Dh with mod != 11 (R97). -/
  | lea (g : Reg16) (m : Mem)
  /-- LES Gv,Mp, C4h with mod != 11 (R98). -/
  | les (g : Reg16) (m : Mem)
  /-- LDS Gv,Mp, C5h with mod != 11 (R98). -/
  | lds (g : Reg16) (m : Mem)
  /-- LAHF, 9Fh (R99). -/
  | lahf
  /-- SAHF, 9Eh (R100). -/
  | sahf
  /-- PUSHF, 9Ch (R101). -/
  | pushf
  /-- POPF, 9Dh (R102). -/
  | popf
  -- Arithmetic (41_arithmetic.md)
  /-- ADD, the forms of R104 (R105). -/
  | add (f : AluForm)
  /-- ADC, the forms of R104 (R106). -/
  | adc (f : AluForm)
  /-- SUB, the forms of R104 (R107). -/
  | sub (f : AluForm)
  /-- SBB, the forms of R104 (R108). -/
  | sbb (f : AluForm)
  /-- CMP, the forms of R104 (R109). -/
  | cmp (f : AluForm)
  /-- INC AX, 40h (R110). -/
  | incAx
  /-- INC CX, 41h (R110). -/
  | incCx
  /-- INC DX, 42h (R110). -/
  | incDx
  /-- INC BX, 43h (R110). -/
  | incBx
  /-- INC SP, 44h (R110). -/
  | incSp
  /-- INC BP, 45h (R110). -/
  | incBp
  /-- INC SI, 46h (R110). -/
  | incSi
  /-- INC DI, 47h (R110). -/
  | incDi
  /-- INC Eb, FEh /0 (R110). -/
  | incEb (e : Rm8)
  /-- INC Ev, FFh /0 (R110). -/
  | incEv (e : Rm16)
  /-- DEC AX, 48h (R111). -/
  | decAx
  /-- DEC CX, 49h (R111). -/
  | decCx
  /-- DEC DX, 4Ah (R111). -/
  | decDx
  /-- DEC BX, 4Bh (R111). -/
  | decBx
  /-- DEC SP, 4Ch (R111). -/
  | decSp
  /-- DEC BP, 4Dh (R111). -/
  | decBp
  /-- DEC SI, 4Eh (R111). -/
  | decSi
  /-- DEC DI, 4Fh (R111). -/
  | decDi
  /-- DEC Eb, FEh /1 (R111). -/
  | decEb (e : Rm8)
  /-- DEC Ev, FFh /1 (R111). -/
  | decEv (e : Rm16)
  /-- NEG, F6h /3 and F7h /3 (R112). -/
  | neg (f : RmForm)
  /-- MUL, F6h /4 and F7h /4 (R113). -/
  | mul (f : RmForm)
  /-- IMUL, F6h /5 and F7h /5 (R114). -/
  | imul (f : RmForm)
  /-- DIV, F6h /6 and F7h /6 (R115). -/
  | div (f : RmForm)
  /-- IDIV, F6h /7 and F7h /7 (R116). -/
  | idiv (f : RmForm)
  /-- DAA, 27h (R117). -/
  | daa
  /-- DAS, 2Fh (R118). -/
  | das
  /-- AAA, 37h (R119). -/
  | aaa
  /-- AAS, 3Fh (R120). -/
  | aas
  /-- AAM, D4h Ib (R121). -/
  | aam (b : Byte)
  /-- AAD, D5h Ib (R122). -/
  | aad (b : Byte)
  /-- CBW, 98h (R123). -/
  | cbw
  /-- CWD, 99h (R124). -/
  | cwd
  -- Logic, shifts and rotates (42_logic_shift.md)
  /-- AND, the forms of R104 but for 82h and 83h (R125). -/
  | and (f : AluForm)
  /-- OR, the forms of R104 but for 82h and 83h (R126). -/
  | or (f : AluForm)
  /-- XOR, the forms of R104 but for 82h and 83h (R127). -/
  | xor (f : AluForm)
  /-- TEST, 84h 85h A8h A9h F6h /0 F7h /0 (R128). -/
  | test (f : TestForm)
  /-- NOT, F6h /2 and F7h /2 (R129). -/
  | not (f : RmForm)
  /-- ROL, D0h..D3h /0 (R131). -/
  | rol (f : ShiftForm)
  /-- ROR, D0h..D3h /1 (R132). -/
  | ror (f : ShiftForm)
  /-- RCL, D0h..D3h /2 (R133). -/
  | rcl (f : ShiftForm)
  /-- RCR, D0h..D3h /3 (R134). -/
  | rcr (f : ShiftForm)
  /-- SHL, D0h..D3h /4 (R135). -/
  | shl (f : ShiftForm)
  /-- SHR, D0h..D3h /5 (R136). -/
  | shr (f : ShiftForm)
  /-- SAR, D0h..D3h /7 (R137). -/
  | sar (f : ShiftForm)
  -- Control transfer (44_control_transfer.md)
  /-- JO rel8, 70h (R148). -/
  | jo (rel : Byte)
  /-- JNO rel8, 71h (R148). -/
  | jno (rel : Byte)
  /-- JB rel8, 72h (R148). -/
  | jb (rel : Byte)
  /-- JAE rel8, 73h (R148). -/
  | jae (rel : Byte)
  /-- JE rel8, 74h (R148). -/
  | je (rel : Byte)
  /-- JNE rel8, 75h (R148). -/
  | jne (rel : Byte)
  /-- JBE rel8, 76h (R148). -/
  | jbe (rel : Byte)
  /-- JA rel8, 77h (R148). -/
  | ja (rel : Byte)
  /-- JS rel8, 78h (R148). -/
  | js (rel : Byte)
  /-- JNS rel8, 79h (R148). -/
  | jns (rel : Byte)
  /-- JP rel8, 7Ah (R148). -/
  | jp (rel : Byte)
  /-- JNP rel8, 7Bh (R148). -/
  | jnp (rel : Byte)
  /-- JL rel8, 7Ch (R148). -/
  | jl (rel : Byte)
  /-- JGE rel8, 7Dh (R148). -/
  | jge (rel : Byte)
  /-- JLE rel8, 7Eh (R148). -/
  | jle (rel : Byte)
  /-- JG rel8, 7Fh (R148). -/
  | jg (rel : Byte)
  /-- LOOPNE rel8, E0h (R151). -/
  | loopne (rel : Byte)
  /-- LOOPE rel8, E1h (R150). -/
  | loope (rel : Byte)
  /-- LOOP rel8, E2h (R149). -/
  | loop (rel : Byte)
  /-- JCXZ rel8, E3h (R152). -/
  | jcxz (rel : Byte)
  /-- JMP rel8, EBh (R153). -/
  | jmpShort (rel : Byte)
  /-- JMP rel16, E9h (R154). -/
  | jmp (rel : Word)
  /-- JMP ptr16:16, EAh (R155). -/
  | jmpFar (off : Word) (seg : Word)
  /-- JMP Ev, FFh /4 (R156). -/
  | jmpEv (e : Rm16)
  /-- JMP far Mp, FFh /5 with mod != 11 (R157). -/
  | jmpFarMp (m : Mem)
  /-- CALL rel16, E8h (R158). -/
  | call (rel : Word)
  /-- CALL ptr16:16, 9Ah (R159). -/
  | callFar (off : Word) (seg : Word)
  /-- CALL Ev, FFh /2 (R160). -/
  | callEv (e : Rm16)
  /-- CALL far Mp, FFh /3 with mod != 11 (R161). -/
  | callFarMp (m : Mem)
  /-- RET, C3h (R162). -/
  | ret
  /-- RET Iw, C2h (R163). -/
  | retIw (n : Word)
  /-- RETF, CBh (R164). -/
  | retf
  /-- RETF Iw, CAh (R165). -/
  | retfIw (n : Word)
  -- Software interrupts (45_interrupt_instructions.md)
  /-- INT n, CDh (R166). -/
  | int (n : Byte)
  /-- INT3, CCh (R167). -/
  | int3
  /-- INTO, CEh (R168). -/
  | into
  /-- IRET, CFh (R169). -/
  | iret
  -- Undocumented and always-refused encodings (47_undocumented.md)
  /-- 60h, JO on the 8088 (R185). -/
  | joAlias (rel : Byte)
  /-- 61h, JNO on the 8088 (R185). -/
  | jnoAlias (rel : Byte)
  /-- 62h, JB on the 8088 (R185). -/
  | jbAlias (rel : Byte)
  /-- 63h, JAE on the 8088 (R185). -/
  | jaeAlias (rel : Byte)
  /-- 64h, JE on the 8088 (R185). -/
  | jeAlias (rel : Byte)
  /-- 65h, JNE on the 8088 (R185). -/
  | jneAlias (rel : Byte)
  /-- 66h, JBE on the 8088 (R185). -/
  | jbeAlias (rel : Byte)
  /-- 67h, JA on the 8088 (R185). -/
  | jaAlias (rel : Byte)
  /-- 68h, JS on the 8088 (R185). -/
  | jsAlias (rel : Byte)
  /-- 69h, JNS on the 8088 (R185). -/
  | jnsAlias (rel : Byte)
  /-- 6Ah, JP on the 8088 (R185). -/
  | jpAlias (rel : Byte)
  /-- 6Bh, JNP on the 8088 (R185). -/
  | jnpAlias (rel : Byte)
  /-- 6Ch, JL on the 8088 (R185). -/
  | jlAlias (rel : Byte)
  /-- 6Dh, JGE on the 8088 (R185). -/
  | jgeAlias (rel : Byte)
  /-- 6Eh, JLE on the 8088 (R185). -/
  | jleAlias (rel : Byte)
  /-- 6Fh, JG on the 8088 (R185). -/
  | jgAlias (rel : Byte)
  /-- C0h, RET Iw on the 8088 (R186). -/
  | retIwAlias (n : Word)
  /-- C1h, RET on the 8088 (R186). -/
  | retAlias
  /-- C8h, RETF Iw on the 8088 (R186). -/
  | retfIwAlias (n : Word)
  /-- C9h, RETF on the 8088 (R186). -/
  | retfAlias
  /-- 82h /1, OR Eb,Ib on the 8088 (R187). -/
  | orAlias82 (e : Rm8) (i : Byte)
  /-- 82h /4, AND Eb,Ib on the 8088 (R187). -/
  | andAlias82 (e : Rm8) (i : Byte)
  /-- 82h /6, XOR Eb,Ib on the 8088 (R187). -/
  | xorAlias82 (e : Rm8) (i : Byte)
  /-- 83h /1, OR Ev,Ib sign-extended on the 8088 (R187). -/
  | orAlias83 (e : Rm16) (i : Byte)
  /-- 83h /4, AND Ev,Ib sign-extended on the 8088 (R187). -/
  | andAlias83 (e : Rm16) (i : Byte)
  /-- 83h /6, XOR Ev,Ib sign-extended on the 8088 (R187). -/
  | xorAlias83 (e : Rm16) (i : Byte)
  /-- 8Ch /4../7, with the segment register reg AND 3 (R188). -/
  | movEwSwAlias (e : Rm16) (r : SReg)
  /-- 8Eh /4../7, with the segment register reg AND 3 (R188). -/
  | movSwEwAlias (r : SReg) (e : Rm16)
  /-- MOV CS,Ew, 8Eh /1 (R189). -/
  | movCsEw (e : Rm16)
  /-- POP CS, 0Fh (R190). -/
  | popCs
  /-- 8Fh /1, POP Ev on the 8088 (R191). -/
  | popEvAlias1 (e : Rm16)
  /-- 8Fh /2, POP Ev on the 8088 (R191). -/
  | popEvAlias2 (e : Rm16)
  /-- 8Fh /3, POP Ev on the 8088 (R191). -/
  | popEvAlias3 (e : Rm16)
  /-- 8Fh /4, POP Ev on the 8088 (R191). -/
  | popEvAlias4 (e : Rm16)
  /-- 8Fh /5, POP Ev on the 8088 (R191). -/
  | popEvAlias5 (e : Rm16)
  /-- 8Fh /6, POP Ev on the 8088 (R191). -/
  | popEvAlias6 (e : Rm16)
  /-- 8Fh /7, POP Ev on the 8088 (R191). -/
  | popEvAlias7 (e : Rm16)
  /-- C6h /1, MOV Eb,Ib on the 8088 (R192). -/
  | movEbIbAlias1 (e : Rm8) (i : Byte)
  /-- C6h /2, MOV Eb,Ib on the 8088 (R192). -/
  | movEbIbAlias2 (e : Rm8) (i : Byte)
  /-- C6h /3, MOV Eb,Ib on the 8088 (R192). -/
  | movEbIbAlias3 (e : Rm8) (i : Byte)
  /-- C6h /4, MOV Eb,Ib on the 8088 (R192). -/
  | movEbIbAlias4 (e : Rm8) (i : Byte)
  /-- C6h /5, MOV Eb,Ib on the 8088 (R192). -/
  | movEbIbAlias5 (e : Rm8) (i : Byte)
  /-- C6h /6, MOV Eb,Ib on the 8088 (R192). -/
  | movEbIbAlias6 (e : Rm8) (i : Byte)
  /-- C6h /7, MOV Eb,Ib on the 8088 (R192). -/
  | movEbIbAlias7 (e : Rm8) (i : Byte)
  /-- C7h /1, MOV Ev,Iv on the 8088 (R192). -/
  | movEvIvAlias1 (e : Rm16) (i : Word)
  /-- C7h /2, MOV Ev,Iv on the 8088 (R192). -/
  | movEvIvAlias2 (e : Rm16) (i : Word)
  /-- C7h /3, MOV Ev,Iv on the 8088 (R192). -/
  | movEvIvAlias3 (e : Rm16) (i : Word)
  /-- C7h /4, MOV Ev,Iv on the 8088 (R192). -/
  | movEvIvAlias4 (e : Rm16) (i : Word)
  /-- C7h /5, MOV Ev,Iv on the 8088 (R192). -/
  | movEvIvAlias5 (e : Rm16) (i : Word)
  /-- C7h /6, MOV Ev,Iv on the 8088 (R192). -/
  | movEvIvAlias6 (e : Rm16) (i : Word)
  /-- C7h /7, MOV Ev,Iv on the 8088 (R192). -/
  | movEvIvAlias7 (e : Rm16) (i : Word)
  /-- F6h /1 and F7h /1, TEST on the 8088 (R193). -/
  | testAlias (f : RmImm)
  /-- FFh /7, PUSH Ev on the 8088 (R194). -/
  | pushEvAlias (e : Rm16)
  /-- SALC, D6h (R195). -/
  | salc
  /-- SETMO, D0h /6 and D1h /6 (R196). -/
  | setmo (f : RmForm)
  /-- SETMOC, D2h /6 and D3h /6 (R196). -/
  | setmoc (f : RmForm)
  /-- FEh /2, always refused (R197). -/
  | fe2 (e : Rm8)
  /-- FEh /3, always refused (R197). -/
  | fe3 (e : Rm8)
  /-- FEh /4, always refused (R197). -/
  | fe4 (e : Rm8)
  /-- FEh /5, always refused (R197). -/
  | fe5 (e : Rm8)
  /-- FEh /6, always refused (R197). -/
  | fe6 (e : Rm8)
  /-- FEh /7, always refused (R197). -/
  | fe7 (e : Rm8)
  /-- 8Dh with mod = 11, always refused (R198). -/
  | leaReg (g : Reg16) (r : Reg16)
  /-- C4h with mod = 11, always refused (R198). -/
  | lesReg (g : Reg16) (r : Reg16)
  /-- C5h with mod = 11, always refused (R198). -/
  | ldsReg (g : Reg16) (r : Reg16)
  /-- FFh /3 with mod = 11, always refused (R198). -/
  | callFarReg (r : Reg16)
  /-- FFh /5 with mod = 11, always refused (R198). -/
  | jmpFarReg (r : Reg16)
  /-- F6h/F7h /4../7 after an F2h or F3h prefix, always refused (R199). -/
  | repMulDiv (o : MulDivOp) (f : RmForm)
  -- Processor control (46_processor_control.md)
  /-- CLC, F8h (R170). -/
  | clc
  /-- STC, F9h (R171). -/
  | stc
  /-- CMC, F5h (R172). -/
  | cmc
  /-- CLD, FCh (R173). -/
  | cld
  /-- STD, FDh (R174). -/
  | std
  /-- CLI, FAh (R175). -/
  | cli
  /-- STI, FBh (R176). -/
  | sti
  /-- HLT, F4h (R177). -/
  | hlt
  /-- WAIT, 9Bh (R178). -/
  | wait
  /-- NOP, 90h (R182). -/
  | nop
  /-- ESC, D8h..DFh (R179). -/
  | esc (op : BitVec 3) (reg : BitVec 3) (e : Rm16)
  -- Strings (43_string.md)
  /-- MOVSB, A4h (R142). -/
  | movsb
  /-- MOVSW, A5h (R142). -/
  | movsw
  /-- CMPSB, A6h (R143). -/
  | cmpsb
  /-- CMPSW, A7h (R143). -/
  | cmpsw
  /-- STOSB, AAh (R146). -/
  | stosb
  /-- STOSW, ABh (R146). -/
  | stosw
  /-- LODSB, ACh (R145). -/
  | lodsb
  /-- LODSW, ADh (R145). -/
  | lodsw
  /-- SCASB, AEh (R144). -/
  | scasb
  /-- SCASW, AFh (R144). -/
  | scasw
  -- Prefixes (30_encoding.md R63)
  /-- ES: segment-override prefix (R181). -/
  | segEs
  /-- CS: segment-override prefix (R181). -/
  | segCs
  /-- SS: segment-override prefix (R181). -/
  | segSs
  /-- DS: segment-override prefix (R181). -/
  | segDs
  /-- LOCK prefix, F0h (R180). -/
  | lock
  /-- F1h, the undocumented LOCK prefix (R184). -/
  | lockF1
  /-- REPNE / REPNZ prefix, F2h (R139). -/
  | repne
  /-- REP / REPE / REPZ prefix, F3h (R139). -/
  | rep
  deriving DecidableEq, Repr

end Sys2Proof
end

