-- ==== Sys2Proof/WellFormed.lean ====
section
/-! DEFINITION. Which terms of Instr stand for an encoding of the 8088. Two checks: a memory operand must have a ModRM
encoding (30_encoding.md R65, R66), and OR, AND and XOR must not use the forms 82h and 83h, which are rows of their own
(30_encoding.md R74, 47_undocumented.md R187). Every other term is an encoding, since its fields have the encoding's widths. -/

namespace Sys2Proof

/-- A memory operand that a ModRM byte can name: `BP` without displacement has no `mod = 00` form, its place being the
direct address (R65, R66). -/
def Mem.wf : Mem → Bool
  | .base .bp => false
  | .base .bxSi | .base .bxDi | .base .bpSi | .base .bpDi | .base .si | .base .di | .base .bx => true
  | .direct _ | .disp8 _ _ | .disp16 _ _ => true

/-- An `r/m` operand is well-formed when its memory form is (R65). -/
def Rm.wf {R : Type} : Rm R → Bool
  | .reg _ => true
  | .mem m => m.wf

def AluForm.wf : AluForm → Bool
  | .ebGb e _ | .gbEb _ e | .ebIb e _ | .ebIb82 e _ => e.wf
  | .evGv e _ | .gvEv _ e | .evIv e _ | .evIs e _ => e.wf
  | .alIb _ | .axIv _ => true

/-- The forms whose rows bear the mnemonics OR, AND and XOR: all but 82h and 83h, which are undocumented for these three
(R74, R187). -/
def AluForm.logic : AluForm → Bool
  | .ebGb _ _ | .evGv _ _ | .gbEb _ _ | .gvEv _ _ | .alIb _ | .axIv _ | .ebIb _ _ | .evIv _ _ => true
  | .ebIb82 _ _ | .evIs _ _ => false

def MovForm.wf : MovForm → Bool
  | .ebGb e _ | .gbEb _ e => e.wf
  | .evGv e _ | .gvEv _ e => e.wf
  | .alOb _ | .axOv _ | .obAl _ | .ovAx _ => true

def TestForm.wf : TestForm → Bool
  | .ebGb e _ | .ebIb e _ => e.wf
  | .evGv e _ | .evIv e _ => e.wf
  | .alIb _ | .axIv _ => true

def XchgForm.wf : XchgForm → Bool
  | .b e _ => e.wf
  | .w e _ => e.wf

def RmForm.wf : RmForm → Bool
  | .b e => e.wf
  | .w e => e.wf

def RmImm.wf : RmImm → Bool
  | .b e _ => e.wf
  | .w e _ => e.wf

def ShiftForm.wf : ShiftForm → Bool
  | .eb1 e | .ebCl e => e.wf
  | .ev1 e | .evCl e => e.wf

/-- The instruction has an encoding. -/
def Instr.wf (i : Instr) : Bool :=
  match i with
  | .mov f => f.wf
  | .movEbIb e _ => e.wf
  | .movEvIv e _ => e.wf
  | .movEwSw e _ => e.wf
  | .movEsEw e => e.wf
  | .movSsEw e => e.wf
  | .movDsEw e => e.wf
  | .pushEv e => e.wf
  | .popEv e => e.wf
  | .xchg f => f.wf
  | .lea _ m => m.wf
  | .les _ m => m.wf
  | .lds _ m => m.wf
  | .add f => f.wf
  | .adc f => f.wf
  | .sub f => f.wf
  | .sbb f => f.wf
  | .cmp f => f.wf
  | .incEb e => e.wf
  | .incEv e => e.wf
  | .decEb e => e.wf
  | .decEv e => e.wf
  | .neg f => f.wf
  | .mul f => f.wf
  | .imul f => f.wf
  | .div f => f.wf
  | .idiv f => f.wf
  | .and f => f.wf && f.logic
  | .or f => f.wf && f.logic
  | .xor f => f.wf && f.logic
  | .test f => f.wf
  | .not f => f.wf
  | .rol f => f.wf
  | .ror f => f.wf
  | .rcl f => f.wf
  | .rcr f => f.wf
  | .shl f => f.wf
  | .shr f => f.wf
  | .sar f => f.wf
  | .jmpEv e => e.wf
  | .jmpFarMp m => m.wf
  | .callEv e => e.wf
  | .callFarMp m => m.wf
  | .esc _ _ e => e.wf
  | .orAlias82 e _ => e.wf
  | .andAlias82 e _ => e.wf
  | .xorAlias82 e _ => e.wf
  | .orAlias83 e _ => e.wf
  | .andAlias83 e _ => e.wf
  | .xorAlias83 e _ => e.wf
  | .movEwSwAlias e _ => e.wf
  | .movSwEwAlias _ e => e.wf
  | .movCsEw e => e.wf
  | .popEvAlias1 e => e.wf
  | .popEvAlias2 e => e.wf
  | .popEvAlias3 e => e.wf
  | .popEvAlias4 e => e.wf
  | .popEvAlias5 e => e.wf
  | .popEvAlias6 e => e.wf
  | .popEvAlias7 e => e.wf
  | .movEbIbAlias1 e _ => e.wf
  | .movEbIbAlias2 e _ => e.wf
  | .movEbIbAlias3 e _ => e.wf
  | .movEbIbAlias4 e _ => e.wf
  | .movEbIbAlias5 e _ => e.wf
  | .movEbIbAlias6 e _ => e.wf
  | .movEbIbAlias7 e _ => e.wf
  | .movEvIvAlias1 e _ => e.wf
  | .movEvIvAlias2 e _ => e.wf
  | .movEvIvAlias3 e _ => e.wf
  | .movEvIvAlias4 e _ => e.wf
  | .movEvIvAlias5 e _ => e.wf
  | .movEvIvAlias6 e _ => e.wf
  | .movEvIvAlias7 e _ => e.wf
  | .testAlias f => f.wf
  | .pushEvAlias e => e.wf
  | .setmo f => f.wf
  | .setmoc f => f.wf
  | .fe2 e => e.wf
  | .fe3 e => e.wf
  | .fe4 e => e.wf
  | .fe5 e => e.wf
  | .fe6 e => e.wf
  | .fe7 e => e.wf
  | .repMulDiv _ f => f.wf
  | .segEs | .segCs | .segSs | .segDs | .lock | .lockF1 | .repne | .rep | .movAlIb _ | .movClIb _ | .movDlIb _ |
  .movBlIb _ | .movAhIb _ | .movChIb _ | .movDhIb _ | .movBhIb _ | .movAxIv _ | .movCxIv _ | .movDxIv _ |
  .movBxIv _ | .movSpIv _ | .movBpIv _ | .movSiIv _ | .movDiIv _ | .pushAx | .pushCx | .pushDx | .pushBx |
  .pushSp | .pushBp | .pushSi | .pushDi | .pushEs | .pushCs | .pushSs | .pushDs | .popAx | .popCx | .popDx |
  .popBx | .popSp | .popBp | .popSi | .popDi | .popEs | .popSs | .popDs | .xchgAxCx | .xchgAxDx | .xchgAxBx |
  .xchgAxSp | .xchgAxBp | .xchgAxSi | .xchgAxDi | .xlat | .inp _ | .outp _ | .lahf | .sahf | .pushf | .popf |
  .incAx | .incCx | .incDx | .incBx | .incSp | .incBp | .incSi | .incDi | .decAx | .decCx | .decDx | .decBx |
  .decSp | .decBp | .decSi | .decDi | .daa | .das | .aaa | .aas | .aam _ | .aad _ | .cbw | .cwd | .movsb |
  .movsw | .cmpsb | .cmpsw | .stosb | .stosw | .lodsb | .lodsw | .scasb | .scasw | .jo _ | .jno _ | .jb _ |
  .jae _ | .je _ | .jne _ | .jbe _ | .ja _ | .js _ | .jns _ | .jp _ | .jnp _ | .jl _ | .jge _ | .jle _ | .jg _ |
  .loopne _ | .loope _ | .loop _ | .jcxz _ | .jmpShort _ | .jmp _ | .jmpFar _ _ | .call _ | .callFar _ _ | .ret
  | .retIw _ | .retf | .retfIw _ | .int _ | .int3 | .into | .iret | .clc | .stc | .cmc | .cld | .std | .cli |
  .sti | .hlt | .wait | .nop | .joAlias _ | .jnoAlias _ | .jbAlias _ | .jaeAlias _ | .jeAlias _ | .jneAlias _ |
  .jbeAlias _ | .jaAlias _ | .jsAlias _ | .jnsAlias _ | .jpAlias _ | .jnpAlias _ | .jlAlias _ | .jgeAlias _ |
  .jleAlias _ | .jgAlias _ | .retIwAlias _ | .retAlias | .retfIwAlias _ | .retfAlias | .popCs | .salc |
  .leaReg _ _ | .lesReg _ _ | .ldsReg _ _ | .callFarReg _ | .jmpFarReg _ => true

end Sys2Proof
end

