-- ==== Sys2Proof/Decode.lean ====
section
/-! DEFINITION. The decoder, total on any bytes and following the opcode map of 30_encoding.md (R73, one function per
row of the map, and R74), the encoder written from the same tables, and the reading of an opcode-table word. A prefix
byte is decoded as an instruction of its own; the one encoding that a prefix changes (F6h / F7h /4../7 after a repeat
prefix, 47_undocumented.md R199) is chosen by the argument `rep`. -/

namespace Sys2Proof

/-- Why decoding fails: only when the bytes run out. Every byte sequence that is long enough has a decoding
(R71: "The decoder itself never fails"). -/
inductive DecodeError where
  /-- The list ended inside the instruction; the fetch of the machine always supplies enough bytes. Safe. -/
  | truncated
  deriving DecidableEq, Repr

/-- What decoding gives: the instruction with the bytes after it, or an error by name. -/
abbrev Decoded := Except DecodeError (Instr × List Byte)

/-! ## Register and field codes -/

def Reg16.code : Reg16 → BitVec 3
  | .ax => 0 | .cx => 1 | .dx => 2 | .bx => 3 | .sp => 4 | .bp => 5 | .si => 6 | .di => 7

/-- R20. -/
def Reg16.ofCode (c : BitVec 3) : Reg16 :=
  match c.toNat with
  | 0 => .ax | 1 => .cx | 2 => .dx | 3 => .bx | 4 => .sp | 5 => .bp | 6 => .si | _ => .di

def Reg8.code : Reg8 → BitVec 3
  | .al => 0 | .cl => 1 | .dl => 2 | .bl => 3 | .ah => 4 | .ch => 5 | .dh => 6 | .bh => 7

/-- R21. -/
def Reg8.ofCode (c : BitVec 3) : Reg8 :=
  match c.toNat with
  | 0 => .al | 1 => .cl | 2 => .dl | 3 => .bl | 4 => .ah | 5 => .ch | 6 => .dh | _ => .bh

def SReg.code : SReg → BitVec 2
  | .es => 0 | .cs => 1 | .ss => 2 | .ds => 3

/-- R23. -/
def SReg.ofCode (c : BitVec 2) : SReg :=
  match c.toNat with
  | 0 => .es | 1 => .cs | 2 => .ss | _ => .ds

def Base.code : Base → BitVec 3
  | .bxSi => 0 | .bxDi => 1 | .bpSi => 2 | .bpDi => 3 | .si => 4 | .di => 5 | .bp => 6 | .bx => 7

/-- The `r/m` column of R66. -/
def Base.ofCode (c : BitVec 3) : Base :=
  match c.toNat with
  | 0 => .bxSi | 1 => .bxDi | 2 => .bpSi | 3 => .bpDi | 4 => .si | 5 => .di | 6 => .bp | _ => .bx

def MulDivOp.code : MulDivOp → BitVec 3
  | .mul => 4 | .imul => 5 | .div => 6 | .idiv => 7

/-! ## Reading bytes -/

/-- The next byte. -/
def takeByte (bs : List Byte) (k : Byte → List Byte → Decoded) : Decoded :=
  match bs with
  | [] => .error .truncated
  | b :: r => k b r

/-- A 16-bit immediate or displacement, low byte first (R69, R47). -/
def takeWord (bs : List Byte) (k : Word → List Byte → Decoded) : Decoded :=
  takeByte bs fun lo r => takeByte r fun hi r => k (hi ++ lo) r

/-- An `r/m` operand before its width is known: the register is its number. -/
abbrev RawRm := Rm (BitVec 3)

def RawRm.b : RawRm → Rm8
  | .reg c => .reg (Reg8.ofCode c)
  | .mem m => .mem m

def RawRm.w : RawRm → Rm16
  | .reg c => .reg (Reg16.ofCode c)
  | .mem m => .mem m

/-- The ModRM byte with its displacement: the `reg` field and the `r/m` operand (R65). -/
def takeRm (bs : List Byte) (k : BitVec 3 → RawRm → List Byte → Decoded) : Decoded :=
  takeByte bs fun m r =>
    let reg := m.extractLsb' 3 3
    let rm := m.extractLsb' 0 3
    match (m.extractLsb' 6 2).toNat with
    | 0 =>
      match Base.ofCode rm with
      | .bp => takeWord r fun d r => k reg (.mem (.direct d)) r
      | b => k reg (.mem (.base b)) r
    | 1 => takeByte r fun d r => k reg (.mem (.disp8 (Base.ofCode rm) d)) r
    | 2 => takeWord r fun d r => k reg (.mem (.disp16 (Base.ofCode rm) d)) r
    | _ => k reg (.reg rm) r

/-! ## Operand forms (R70) -/

def done (i : Instr) (r : List Byte) : Decoded := .ok (i, r)

def withIb (c : Byte → Instr) (bs : List Byte) : Decoded := takeByte bs fun v r => .ok (c v, r)

def withIw (c : Word → Instr) (bs : List Byte) : Decoded := takeWord bs fun v r => .ok (c v, r)

/-- `Ap`: the offset, then the segment (R69). -/
def withAp (c : Word → Word → Instr) (bs : List Byte) : Decoded :=
  takeWord bs fun off r => takeWord r fun seg r => .ok (c off seg, r)

def withEbGb (c : Rm8 → Reg8 → Instr) (bs : List Byte) : Decoded :=
  takeRm bs fun g e r => .ok (c e.b (Reg8.ofCode g), r)

def withEvGv (c : Rm16 → Reg16 → Instr) (bs : List Byte) : Decoded :=
  takeRm bs fun g e r => .ok (c e.w (Reg16.ofCode g), r)

/-- The six columns `b+0 .. b+5` of a two-operand ALU instruction (41_arithmetic.md R104). -/
def aluCol (c : AluForm → Instr) (col : Nat) (bs : List Byte) : Decoded :=
  match col with
  | 0 => withEbGb (fun e g => c (.ebGb e g)) bs
  | 1 => withEvGv (fun e g => c (.evGv e g)) bs
  | 2 => withEbGb (fun e g => c (.gbEb g e)) bs
  | 3 => withEvGv (fun e g => c (.gvEv g e)) bs
  | 4 => withIb (fun i => c (.alIb i)) bs
  | _ => withIw (fun i => c (.axIv i)) bs

/-! ## Groups selected by the ModRM `reg` field (R74) -/

/-- 80h and 81h. -/
def grp1 (reg : BitVec 3) : AluForm → Instr :=
  match reg.toNat with
  | 0 => .add | 1 => .or | 2 => .adc | 3 => .sbb | 4 => .and | 5 => .sub | 6 => .xor | _ => .cmp

/-- 82h. -/
def grp82 (reg : BitVec 3) (e : Rm8) (i : Byte) : Instr :=
  match reg.toNat with
  | 0 => .add (.ebIb82 e i) | 1 => .orAlias82 e i | 2 => .adc (.ebIb82 e i) | 3 => .sbb (.ebIb82 e i)
  | 4 => .andAlias82 e i | 5 => .sub (.ebIb82 e i) | 6 => .xorAlias82 e i | _ => .cmp (.ebIb82 e i)

/-- 83h. -/
def grp83 (reg : BitVec 3) (e : Rm16) (i : Byte) : Instr :=
  match reg.toNat with
  | 0 => .add (.evIs e i) | 1 => .orAlias83 e i | 2 => .adc (.evIs e i) | 3 => .sbb (.evIs e i)
  | 4 => .andAlias83 e i | 5 => .sub (.evIs e i) | 6 => .xorAlias83 e i | _ => .cmp (.evIs e i)

/-- D0h..D3h; /6 is SETMO for a count of 1 and SETMOC for a count in CL. -/
def grp2 (reg : BitVec 3) (f : ShiftForm) : Instr :=
  match reg.toNat with
  | 0 => .rol f | 1 => .ror f | 2 => .rcl f | 3 => .rcr f | 4 => .shl f | 5 => .shr f
  | 6 =>
    match f with
    | .eb1 e => .setmo (.b e)
    | .ev1 e => .setmo (.w e)
    | .ebCl e => .setmoc (.b e)
    | .evCl e => .setmoc (.w e)
  | _ => .sar f

/-- F6h and F7h /2../7; with a repeat prefix /4../7 are the refused form of R199. -/
def grp3 (rep : Bool) (reg : BitVec 3) (f : RmForm) : Instr :=
  match reg.toNat, rep with
  | 2, _ => .not f
  | 3, _ => .neg f
  | 4, false => .mul f
  | 5, false => .imul f
  | 6, false => .div f
  | 4, true => .repMulDiv .mul f
  | 5, true => .repMulDiv .imul f
  | 6, true => .repMulDiv .div f
  | _, false => .idiv f
  | _, true => .repMulDiv .idiv f

/-- FEh. -/
def grp4 (reg : BitVec 3) (e : Rm8) : Instr :=
  match reg.toNat with
  | 0 => .incEb e | 1 => .decEb e | 2 => .fe2 e | 3 => .fe3 e | 4 => .fe4 e | 5 => .fe5 e | 6 => .fe6 e | _ => .fe7 e

/-- FFh; /3 and /5 with `mod = 11` are the refused forms of R198. -/
def grp5 (reg : BitVec 3) (e : RawRm) : Instr :=
  match reg.toNat with
  | 0 => .incEv e.w
  | 1 => .decEv e.w
  | 2 => .callEv e.w
  | 3 =>
    match e with
    | .mem m => .callFarMp m
    | .reg c => .callFarReg (Reg16.ofCode c)
  | 4 => .jmpEv e.w
  | 5 =>
    match e with
    | .mem m => .jmpFarMp m
    | .reg c => .jmpFarReg (Reg16.ofCode c)
  | 6 => .pushEv e.w
  | _ => .pushEvAlias e.w

/-- 8Ch: /4../7 are the alias rows (R188). -/
def grp8C (reg : BitVec 3) (e : Rm16) : Instr :=
  match (reg.extractLsb' 2 1).toNat with
  | 0 => .movEwSw e (SReg.ofCode (reg.extractLsb' 0 2))
  | _ => .movEwSwAlias e (SReg.ofCode (reg.extractLsb' 0 2))

/-- 8Eh. -/
def grp8E (reg : BitVec 3) (e : Rm16) : Instr :=
  match reg.toNat with
  | 0 => .movEsEw e
  | 1 => .movCsEw e
  | 2 => .movSsEw e
  | 3 => .movDsEw e
  | _ => .movSwEwAlias (SReg.ofCode (reg.extractLsb' 0 2)) e

/-- 8Fh. -/
def grp8F (reg : BitVec 3) (e : Rm16) : Instr :=
  match reg.toNat with
  | 0 => .popEv e | 1 => .popEvAlias1 e | 2 => .popEvAlias2 e | 3 => .popEvAlias3 e | 4 => .popEvAlias4 e
  | 5 => .popEvAlias5 e | 6 => .popEvAlias6 e | _ => .popEvAlias7 e

/-- C6h. -/
def grpC6 (reg : BitVec 3) (e : Rm8) (i : Byte) : Instr :=
  match reg.toNat with
  | 0 => .movEbIb e i | 1 => .movEbIbAlias1 e i | 2 => .movEbIbAlias2 e i | 3 => .movEbIbAlias3 e i
  | 4 => .movEbIbAlias4 e i | 5 => .movEbIbAlias5 e i | 6 => .movEbIbAlias6 e i | _ => .movEbIbAlias7 e i

/-- C7h. -/
def grpC7 (reg : BitVec 3) (e : Rm16) (i : Word) : Instr :=
  match reg.toNat with
  | 0 => .movEvIv e i | 1 => .movEvIvAlias1 e i | 2 => .movEvIvAlias2 e i | 3 => .movEvIvAlias3 e i
  | 4 => .movEvIvAlias4 e i | 5 => .movEvIvAlias5 e i | 6 => .movEvIvAlias6 e i | _ => .movEvIvAlias7 e i

/-- F6h: the immediate is present for /0 and /1 only (R72). -/
def decodeF6 (rep : Bool) (bs : List Byte) : Decoded :=
  takeRm bs fun reg e r =>
    match reg.toNat with
    | 0 => takeByte r fun i r => .ok (.test (.ebIb e.b i), r)
    | 1 => takeByte r fun i r => .ok (.testAlias (.b e.b i), r)
    | _ => .ok (grp3 rep reg (.b e.b), r)

/-- F7h: the immediate is present for /0 and /1 only (R72). -/
def decodeF7 (rep : Bool) (bs : List Byte) : Decoded :=
  takeRm bs fun reg e r =>
    match reg.toNat with
    | 0 => takeWord r fun i r => .ok (.test (.evIv e.w i), r)
    | 1 => takeWord r fun i r => .ok (.testAlias (.w e.w i), r)
    | _ => .ok (grp3 rep reg (.w e.w), r)

/-- LEA, LES, LDS: `mod = 11` is the refused form of R198. -/
def withMemOnly (mem : Reg16 → Mem → Instr) (regForm : Reg16 → Reg16 → Instr) (bs : List Byte) : Decoded :=
  takeRm bs fun g e r =>
    match e with
    | .mem m => .ok (mem (Reg16.ofCode g) m, r)
    | .reg c => .ok (regForm (Reg16.ofCode g) (Reg16.ofCode c), r)

/-! ## The rows of the opcode map (R73); `c` is the low nibble of the opcode -/

def row0 (c : Nat) (bs : List Byte) : Decoded :=
  match c with
  | 0x6 => done .pushEs bs
  | 0x7 => done .popEs bs
  | 0xE => done .pushCs bs
  | 0xF => done .popCs bs
  | _ => if c < 8 then aluCol .add c bs else aluCol .or (c - 8) bs

def row1 (c : Nat) (bs : List Byte) : Decoded :=
  match c with
  | 0x6 => done .pushSs bs
  | 0x7 => done .popSs bs
  | 0xE => done .pushDs bs
  | 0xF => done .popDs bs
  | _ => if c < 8 then aluCol .adc c bs else aluCol .sbb (c - 8) bs

def row2 (c : Nat) (bs : List Byte) : Decoded :=
  match c with
  | 0x6 => done .segEs bs
  | 0x7 => done .daa bs
  | 0xE => done .segCs bs
  | 0xF => done .das bs
  | _ => if c < 8 then aluCol .and c bs else aluCol .sub (c - 8) bs

def row3 (c : Nat) (bs : List Byte) : Decoded :=
  match c with
  | 0x6 => done .segSs bs
  | 0x7 => done .aaa bs
  | 0xE => done .segDs bs
  | 0xF => done .aas bs
  | _ => if c < 8 then aluCol .xor c bs else aluCol .cmp (c - 8) bs

def row4 (c : Nat) (bs : List Byte) : Decoded :=
  match c with
  | 0x0 => done .incAx bs
  | 0x1 => done .incCx bs
  | 0x2 => done .incDx bs
  | 0x3 => done .incBx bs
  | 0x4 => done .incSp bs
  | 0x5 => done .incBp bs
  | 0x6 => done .incSi bs
  | 0x7 => done .incDi bs
  | 0x8 => done .decAx bs
  | 0x9 => done .decCx bs
  | 0xA => done .decDx bs
  | 0xB => done .decBx bs
  | 0xC => done .decSp bs
  | 0xD => done .decBp bs
  | 0xE => done .decSi bs
  | _ => done .decDi bs

def row5 (c : Nat) (bs : List Byte) : Decoded :=
  match c with
  | 0x0 => done .pushAx bs
  | 0x1 => done .pushCx bs
  | 0x2 => done .pushDx bs
  | 0x3 => done .pushBx bs
  | 0x4 => done .pushSp bs
  | 0x5 => done .pushBp bs
  | 0x6 => done .pushSi bs
  | 0x7 => done .pushDi bs
  | 0x8 => done .popAx bs
  | 0x9 => done .popCx bs
  | 0xA => done .popDx bs
  | 0xB => done .popBx bs
  | 0xC => done .popSp bs
  | 0xD => done .popBp bs
  | 0xE => done .popSi bs
  | _ => done .popDi bs

def row6 (c : Nat) (bs : List Byte) : Decoded :=
  match c with
  | 0x0 => withIb .joAlias bs
  | 0x1 => withIb .jnoAlias bs
  | 0x2 => withIb .jbAlias bs
  | 0x3 => withIb .jaeAlias bs
  | 0x4 => withIb .jeAlias bs
  | 0x5 => withIb .jneAlias bs
  | 0x6 => withIb .jbeAlias bs
  | 0x7 => withIb .jaAlias bs
  | 0x8 => withIb .jsAlias bs
  | 0x9 => withIb .jnsAlias bs
  | 0xA => withIb .jpAlias bs
  | 0xB => withIb .jnpAlias bs
  | 0xC => withIb .jlAlias bs
  | 0xD => withIb .jgeAlias bs
  | 0xE => withIb .jleAlias bs
  | _ => withIb .jgAlias bs

def row7 (c : Nat) (bs : List Byte) : Decoded :=
  match c with
  | 0x0 => withIb .jo bs
  | 0x1 => withIb .jno bs
  | 0x2 => withIb .jb bs
  | 0x3 => withIb .jae bs
  | 0x4 => withIb .je bs
  | 0x5 => withIb .jne bs
  | 0x6 => withIb .jbe bs
  | 0x7 => withIb .ja bs
  | 0x8 => withIb .js bs
  | 0x9 => withIb .jns bs
  | 0xA => withIb .jp bs
  | 0xB => withIb .jnp bs
  | 0xC => withIb .jl bs
  | 0xD => withIb .jge bs
  | 0xE => withIb .jle bs
  | _ => withIb .jg bs

def row8 (c : Nat) (bs : List Byte) : Decoded :=
  match c with
  | 0x0 => takeRm bs fun reg e r => takeByte r fun i r => .ok (grp1 reg (.ebIb e.b i), r)
  | 0x1 => takeRm bs fun reg e r => takeWord r fun i r => .ok (grp1 reg (.evIv e.w i), r)
  | 0x2 => takeRm bs fun reg e r => takeByte r fun i r => .ok (grp82 reg e.b i, r)
  | 0x3 => takeRm bs fun reg e r => takeByte r fun i r => .ok (grp83 reg e.w i, r)
  | 0x4 => withEbGb (fun e g => .test (.ebGb e g)) bs
  | 0x5 => withEvGv (fun e g => .test (.evGv e g)) bs
  | 0x6 => withEbGb (fun e g => .xchg (.b e g)) bs
  | 0x7 => withEvGv (fun e g => .xchg (.w e g)) bs
  | 0x8 => withEbGb (fun e g => .mov (.ebGb e g)) bs
  | 0x9 => withEvGv (fun e g => .mov (.evGv e g)) bs
  | 0xA => withEbGb (fun e g => .mov (.gbEb g e)) bs
  | 0xB => withEvGv (fun e g => .mov (.gvEv g e)) bs
  | 0xC => takeRm bs fun reg e r => .ok (grp8C reg e.w, r)
  | 0xD => withMemOnly .lea .leaReg bs
  | 0xE => takeRm bs fun reg e r => .ok (grp8E reg e.w, r)
  | _ => takeRm bs fun reg e r => .ok (grp8F reg e.w, r)

def row9 (c : Nat) (bs : List Byte) : Decoded :=
  match c with
  | 0x0 => done .nop bs
  | 0x1 => done .xchgAxCx bs
  | 0x2 => done .xchgAxDx bs
  | 0x3 => done .xchgAxBx bs
  | 0x4 => done .xchgAxSp bs
  | 0x5 => done .xchgAxBp bs
  | 0x6 => done .xchgAxSi bs
  | 0x7 => done .xchgAxDi bs
  | 0x8 => done .cbw bs
  | 0x9 => done .cwd bs
  | 0xA => withAp .callFar bs
  | 0xB => done .wait bs
  | 0xC => done .pushf bs
  | 0xD => done .popf bs
  | 0xE => done .sahf bs
  | _ => done .lahf bs

def rowA (c : Nat) (bs : List Byte) : Decoded :=
  match c with
  | 0x0 => withIw (fun off => .mov (.alOb off)) bs
  | 0x1 => withIw (fun off => .mov (.axOv off)) bs
  | 0x2 => withIw (fun off => .mov (.obAl off)) bs
  | 0x3 => withIw (fun off => .mov (.ovAx off)) bs
  | 0x4 => done .movsb bs
  | 0x5 => done .movsw bs
  | 0x6 => done .cmpsb bs
  | 0x7 => done .cmpsw bs
  | 0x8 => withIb (fun i => .test (.alIb i)) bs
  | 0x9 => withIw (fun i => .test (.axIv i)) bs
  | 0xA => done .stosb bs
  | 0xB => done .stosw bs
  | 0xC => done .lodsb bs
  | 0xD => done .lodsw bs
  | 0xE => done .scasb bs
  | _ => done .scasw bs

def rowB (c : Nat) (bs : List Byte) : Decoded :=
  match c with
  | 0x0 => withIb .movAlIb bs
  | 0x1 => withIb .movClIb bs
  | 0x2 => withIb .movDlIb bs
  | 0x3 => withIb .movBlIb bs
  | 0x4 => withIb .movAhIb bs
  | 0x5 => withIb .movChIb bs
  | 0x6 => withIb .movDhIb bs
  | 0x7 => withIb .movBhIb bs
  | 0x8 => withIw .movAxIv bs
  | 0x9 => withIw .movCxIv bs
  | 0xA => withIw .movDxIv bs
  | 0xB => withIw .movBxIv bs
  | 0xC => withIw .movSpIv bs
  | 0xD => withIw .movBpIv bs
  | 0xE => withIw .movSiIv bs
  | _ => withIw .movDiIv bs

def rowC (c : Nat) (bs : List Byte) : Decoded :=
  match c with
  | 0x0 => withIw .retIwAlias bs
  | 0x1 => done .retAlias bs
  | 0x2 => withIw .retIw bs
  | 0x3 => done .ret bs
  | 0x4 => withMemOnly .les .lesReg bs
  | 0x5 => withMemOnly .lds .ldsReg bs
  | 0x6 => takeRm bs fun reg e r => takeByte r fun i r => .ok (grpC6 reg e.b i, r)
  | 0x7 => takeRm bs fun reg e r => takeWord r fun i r => .ok (grpC7 reg e.w i, r)
  | 0x8 => withIw .retfIwAlias bs
  | 0x9 => done .retfAlias bs
  | 0xA => withIw .retfIw bs
  | 0xB => done .retf bs
  | 0xC => done .int3 bs
  | 0xD => withIb .int bs
  | 0xE => done .into bs
  | _ => done .iret bs

def rowD (c : Nat) (bs : List Byte) : Decoded :=
  match c with
  | 0x0 => takeRm bs fun reg e r => .ok (grp2 reg (.eb1 e.b), r)
  | 0x1 => takeRm bs fun reg e r => .ok (grp2 reg (.ev1 e.w), r)
  | 0x2 => takeRm bs fun reg e r => .ok (grp2 reg (.ebCl e.b), r)
  | 0x3 => takeRm bs fun reg e r => .ok (grp2 reg (.evCl e.w), r)
  | 0x4 => withIb .aam bs
  | 0x5 => withIb .aad bs
  | 0x6 => done .salc bs
  | 0x7 => done .xlat bs
  | _ => takeRm bs fun reg e r => .ok (.esc (BitVec.ofNat 3 c) reg e.w, r)

def rowE (c : Nat) (bs : List Byte) : Decoded :=
  match c with
  | 0x0 => withIb .loopne bs
  | 0x1 => withIb .loope bs
  | 0x2 => withIb .loop bs
  | 0x3 => withIb .jcxz bs
  | 0x4 => withIb (fun p => .inp (.immB p)) bs
  | 0x5 => withIb (fun p => .inp (.immW p)) bs
  | 0x6 => withIb (fun p => .outp (.immB p)) bs
  | 0x7 => withIb (fun p => .outp (.immW p)) bs
  | 0x8 => withIw .call bs
  | 0x9 => withIw .jmp bs
  | 0xA => withAp .jmpFar bs
  | 0xB => withIb .jmpShort bs
  | 0xC => done (.inp .dxB) bs
  | 0xD => done (.inp .dxW) bs
  | 0xE => done (.outp .dxB) bs
  | _ => done (.outp .dxW) bs

def rowF (rep : Bool) (c : Nat) (bs : List Byte) : Decoded :=
  match c with
  | 0x0 => done .lock bs
  | 0x1 => done .lockF1 bs
  | 0x2 => done .repne bs
  | 0x3 => done .rep bs
  | 0x4 => done .hlt bs
  | 0x5 => done .cmc bs
  | 0x6 => decodeF6 rep bs
  | 0x7 => decodeF7 rep bs
  | 0x8 => done .clc bs
  | 0x9 => done .stc bs
  | 0xA => done .cli bs
  | 0xB => done .sti bs
  | 0xC => done .cld bs
  | 0xD => done .std bs
  | 0xE => takeRm bs fun reg e r => .ok (grp4 reg e.b, r)
  | _ => takeRm bs fun reg e r => .ok (grp5 reg e, r)

/-- Decode the bytes after the opcode byte `op` (R73). `rep` says whether a repeat prefix stands among the prefixes
before it (R199). -/
def decodeOp (rep : Bool) (op : Byte) (bs : List Byte) : Decoded :=
  let c := op.toNat % 16
  match op.toNat / 16 with
  | 0x0 => row0 c bs
  | 0x1 => row1 c bs
  | 0x2 => row2 c bs
  | 0x3 => row3 c bs
  | 0x4 => row4 c bs
  | 0x5 => row5 c bs
  | 0x6 => row6 c bs
  | 0x7 => row7 c bs
  | 0x8 => row8 c bs
  | 0x9 => row9 c bs
  | 0xA => rowA c bs
  | 0xB => rowB c bs
  | 0xC => rowC c bs
  | 0xD => rowD c bs
  | 0xE => rowE c bs
  | _ => rowF rep c bs

/-- Decode one prefix byte or one instruction from the front of `bs`, giving the bytes after it (R71). -/
def decode (rep : Bool) (bs : List Byte) : Decoded :=
  takeByte bs (decodeOp rep)

/-- Is it one of the eight prefix bytes of R63? -/
def Instr.isPrefix (i : Instr) : Bool :=
  i = .segEs || i = .segCs || i = .segSs || i = .segDs || i = .lock || i = .lockF1 || i = .repne || i = .rep

/-- Is it a repeat prefix, F2h or F3h (R63)? -/
def Instr.isRepPrefix (i : Instr) : Bool := i = .repne || i = .rep

/-- Is it a string instruction (43_string.md R138)? -/
def Instr.isString (i : Instr) : Bool :=
  i = .movsb || i = .movsw || i = .cmpsb || i = .cmpsw || i = .stosb || i = .stosw || i = .lodsb || i = .lodsw
    || i = .scasb || i = .scasw

/-! ## Encoding -/

/-- A word, low byte first (R69). -/
def wordBytes (v : Word) : List Byte := [v.extractLsb' 0 8, v.extractLsb' 8 8]

/-- The ModRM byte from its fields (R65). -/
def modrm (md : BitVec 2) (reg rm : BitVec 3) : Byte := md ++ reg ++ rm

/-- The ModRM byte and displacement of a memory operand (R65, R66). -/
def encMem (reg : BitVec 3) : Mem → List Byte
  | .base b => [modrm 0 reg b.code]
  | .direct d => modrm 0 reg 6 :: wordBytes d
  | .disp8 b d => [modrm 1 reg b.code, d]
  | .disp16 b d => modrm 2 reg b.code :: wordBytes d

def encRm8 (reg : BitVec 3) : Rm8 → List Byte
  | .reg r => [modrm 3 reg r.code]
  | .mem m => encMem reg m

def encRm16 (reg : BitVec 3) : Rm16 → List Byte
  | .reg r => [modrm 3 reg r.code]
  | .mem m => encMem reg m

/-- A two-operand ALU instruction with operation number `k` (41_arithmetic.md R104). -/
def encAlu (k : BitVec 3) : AluForm → List Byte
  | .ebGb e g => ((0 : BitVec 2) ++ k ++ (0 : BitVec 3)) :: encRm8 g.code e
  | .evGv e g => ((0 : BitVec 2) ++ k ++ (1 : BitVec 3)) :: encRm16 g.code e
  | .gbEb g e => ((0 : BitVec 2) ++ k ++ (2 : BitVec 3)) :: encRm8 g.code e
  | .gvEv g e => ((0 : BitVec 2) ++ k ++ (3 : BitVec 3)) :: encRm16 g.code e
  | .alIb i => [(0 : BitVec 2) ++ k ++ (4 : BitVec 3), i]
  | .axIv i => ((0 : BitVec 2) ++ k ++ (5 : BitVec 3)) :: wordBytes i
  | .ebIb e i => 0x80 :: encRm8 k e ++ [i]
  | .evIv e i => 0x81 :: encRm16 k e ++ wordBytes i
  | .ebIb82 e i => 0x82 :: encRm8 k e ++ [i]
  | .evIs e i => 0x83 :: encRm16 k e ++ [i]

def encMov : MovForm → List Byte
  | .ebGb e g => 0x88 :: encRm8 g.code e
  | .evGv e g => 0x89 :: encRm16 g.code e
  | .gbEb g e => 0x8A :: encRm8 g.code e
  | .gvEv g e => 0x8B :: encRm16 g.code e
  | .alOb off => 0xA0 :: wordBytes off
  | .axOv off => 0xA1 :: wordBytes off
  | .obAl off => 0xA2 :: wordBytes off
  | .ovAx off => 0xA3 :: wordBytes off

def encTest : TestForm → List Byte
  | .ebGb e g => 0x84 :: encRm8 g.code e
  | .evGv e g => 0x85 :: encRm16 g.code e
  | .alIb i => [0xA8, i]
  | .axIv i => 0xA9 :: wordBytes i
  | .ebIb e i => 0xF6 :: encRm8 0 e ++ [i]
  | .evIv e i => 0xF7 :: encRm16 0 e ++ wordBytes i

def encXchg : XchgForm → List Byte
  | .b e g => 0x86 :: encRm8 g.code e
  | .w e g => 0x87 :: encRm16 g.code e

/-- F6h or F7h with the given `reg` field. -/
def encGrp3 (reg : BitVec 3) : RmForm → List Byte
  | .b e => 0xF6 :: encRm8 reg e
  | .w e => 0xF7 :: encRm16 reg e

def encTestAlias : RmImm → List Byte
  | .b e i => 0xF6 :: encRm8 1 e ++ [i]
  | .w e i => 0xF7 :: encRm16 1 e ++ wordBytes i

/-- D0h..D3h with the given `reg` field. -/
def encShift (reg : BitVec 3) : ShiftForm → List Byte
  | .eb1 e => 0xD0 :: encRm8 reg e
  | .ev1 e => 0xD1 :: encRm16 reg e
  | .ebCl e => 0xD2 :: encRm8 reg e
  | .evCl e => 0xD3 :: encRm16 reg e

def encIn : PortForm → List Byte
  | .immB p => [0xE4, p]
  | .immW p => [0xE5, p]
  | .dxB => [0xEC]
  | .dxW => [0xED]

def encOut : PortForm → List Byte
  | .immB p => [0xE6, p]
  | .immW p => [0xE7, p]
  | .dxB => [0xEE]
  | .dxW => [0xEF]

/-- SETMO: D0h or D1h /6 (47_undocumented.md R196). -/
def encSetmo : RmForm → List Byte
  | .b e => 0xD0 :: encRm8 6 e
  | .w e => 0xD1 :: encRm16 6 e

/-- SETMOC: D2h or D3h /6 (47_undocumented.md R196). -/
def encSetmoc : RmForm → List Byte
  | .b e => 0xD2 :: encRm8 6 e
  | .w e => 0xD3 :: encRm16 6 e

/-- The bytes of an instruction without prefixes, or of a prefix byte (R62, R73, R74). -/
def encode (i : Instr) : List Byte :=
  match i with
  | .segEs => [0x26]
  | .segCs => [0x2E]
  | .segSs => [0x36]
  | .segDs => [0x3E]
  | .lock => [0xF0]
  | .lockF1 => [0xF1]
  | .repne => [0xF2]
  | .rep => [0xF3]
  | .mov f => encMov f
  | .movEbIb e i => 0xC6 :: encRm8 0 e ++ [i]
  | .movEvIv e i => 0xC7 :: encRm16 0 e ++ wordBytes i
  | .movAlIb i => [0xB0, i]
  | .movClIb i => [0xB1, i]
  | .movDlIb i => [0xB2, i]
  | .movBlIb i => [0xB3, i]
  | .movAhIb i => [0xB4, i]
  | .movChIb i => [0xB5, i]
  | .movDhIb i => [0xB6, i]
  | .movBhIb i => [0xB7, i]
  | .movAxIv i => 0xB8 :: wordBytes i
  | .movCxIv i => 0xB9 :: wordBytes i
  | .movDxIv i => 0xBA :: wordBytes i
  | .movBxIv i => 0xBB :: wordBytes i
  | .movSpIv i => 0xBC :: wordBytes i
  | .movBpIv i => 0xBD :: wordBytes i
  | .movSiIv i => 0xBE :: wordBytes i
  | .movDiIv i => 0xBF :: wordBytes i
  | .movEwSw e r => 0x8C :: encRm16 ((0 : BitVec 1) ++ r.code) e
  | .movEsEw e => 0x8E :: encRm16 0 e
  | .movSsEw e => 0x8E :: encRm16 2 e
  | .movDsEw e => 0x8E :: encRm16 3 e
  | .pushAx => [0x50]
  | .pushCx => [0x51]
  | .pushDx => [0x52]
  | .pushBx => [0x53]
  | .pushSp => [0x54]
  | .pushBp => [0x55]
  | .pushSi => [0x56]
  | .pushDi => [0x57]
  | .pushEs => [0x06]
  | .pushCs => [0x0E]
  | .pushSs => [0x16]
  | .pushDs => [0x1E]
  | .pushEv e => 0xFF :: encRm16 6 e
  | .popAx => [0x58]
  | .popCx => [0x59]
  | .popDx => [0x5A]
  | .popBx => [0x5B]
  | .popSp => [0x5C]
  | .popBp => [0x5D]
  | .popSi => [0x5E]
  | .popDi => [0x5F]
  | .popEs => [0x07]
  | .popSs => [0x17]
  | .popDs => [0x1F]
  | .popEv e => 0x8F :: encRm16 0 e
  | .xchg f => encXchg f
  | .xchgAxCx => [0x91]
  | .xchgAxDx => [0x92]
  | .xchgAxBx => [0x93]
  | .xchgAxSp => [0x94]
  | .xchgAxBp => [0x95]
  | .xchgAxSi => [0x96]
  | .xchgAxDi => [0x97]
  | .xlat => [0xD7]
  | .inp f => encIn f
  | .outp f => encOut f
  | .lea g m => 0x8D :: encMem g.code m
  | .les g m => 0xC4 :: encMem g.code m
  | .lds g m => 0xC5 :: encMem g.code m
  | .lahf => [0x9F]
  | .sahf => [0x9E]
  | .pushf => [0x9C]
  | .popf => [0x9D]
  | .add f => encAlu 0 f
  | .adc f => encAlu 2 f
  | .sub f => encAlu 5 f
  | .sbb f => encAlu 3 f
  | .cmp f => encAlu 7 f
  | .incAx => [0x40]
  | .incCx => [0x41]
  | .incDx => [0x42]
  | .incBx => [0x43]
  | .incSp => [0x44]
  | .incBp => [0x45]
  | .incSi => [0x46]
  | .incDi => [0x47]
  | .incEb e => 0xFE :: encRm8 0 e
  | .incEv e => 0xFF :: encRm16 0 e
  | .decAx => [0x48]
  | .decCx => [0x49]
  | .decDx => [0x4A]
  | .decBx => [0x4B]
  | .decSp => [0x4C]
  | .decBp => [0x4D]
  | .decSi => [0x4E]
  | .decDi => [0x4F]
  | .decEb e => 0xFE :: encRm8 1 e
  | .decEv e => 0xFF :: encRm16 1 e
  | .neg f => encGrp3 3 f
  | .mul f => encGrp3 4 f
  | .imul f => encGrp3 5 f
  | .div f => encGrp3 6 f
  | .idiv f => encGrp3 7 f
  | .daa => [0x27]
  | .das => [0x2F]
  | .aaa => [0x37]
  | .aas => [0x3F]
  | .aam b => [0xD4, b]
  | .aad b => [0xD5, b]
  | .cbw => [0x98]
  | .cwd => [0x99]
  | .and f => encAlu 4 f
  | .or f => encAlu 1 f
  | .xor f => encAlu 6 f
  | .test f => encTest f
  | .not f => encGrp3 2 f
  | .rol f => encShift 0 f
  | .ror f => encShift 1 f
  | .rcl f => encShift 2 f
  | .rcr f => encShift 3 f
  | .shl f => encShift 4 f
  | .shr f => encShift 5 f
  | .sar f => encShift 7 f
  | .movsb => [0xA4]
  | .movsw => [0xA5]
  | .cmpsb => [0xA6]
  | .cmpsw => [0xA7]
  | .stosb => [0xAA]
  | .stosw => [0xAB]
  | .lodsb => [0xAC]
  | .lodsw => [0xAD]
  | .scasb => [0xAE]
  | .scasw => [0xAF]
  | .jo rel => [0x70, rel]
  | .jno rel => [0x71, rel]
  | .jb rel => [0x72, rel]
  | .jae rel => [0x73, rel]
  | .je rel => [0x74, rel]
  | .jne rel => [0x75, rel]
  | .jbe rel => [0x76, rel]
  | .ja rel => [0x77, rel]
  | .js rel => [0x78, rel]
  | .jns rel => [0x79, rel]
  | .jp rel => [0x7A, rel]
  | .jnp rel => [0x7B, rel]
  | .jl rel => [0x7C, rel]
  | .jge rel => [0x7D, rel]
  | .jle rel => [0x7E, rel]
  | .jg rel => [0x7F, rel]
  | .loopne rel => [0xE0, rel]
  | .loope rel => [0xE1, rel]
  | .loop rel => [0xE2, rel]
  | .jcxz rel => [0xE3, rel]
  | .jmpShort rel => [0xEB, rel]
  | .jmp rel => 0xE9 :: wordBytes rel
  | .jmpFar off seg => 0xEA :: wordBytes off ++ wordBytes seg
  | .jmpEv e => 0xFF :: encRm16 4 e
  | .jmpFarMp m => 0xFF :: encMem 5 m
  | .call rel => 0xE8 :: wordBytes rel
  | .callFar off seg => 0x9A :: wordBytes off ++ wordBytes seg
  | .callEv e => 0xFF :: encRm16 2 e
  | .callFarMp m => 0xFF :: encMem 3 m
  | .ret => [0xC3]
  | .retIw n => 0xC2 :: wordBytes n
  | .retf => [0xCB]
  | .retfIw n => 0xCA :: wordBytes n
  | .int n => [0xCD, n]
  | .int3 => [0xCC]
  | .into => [0xCE]
  | .iret => [0xCF]
  | .clc => [0xF8]
  | .stc => [0xF9]
  | .cmc => [0xF5]
  | .cld => [0xFC]
  | .std => [0xFD]
  | .cli => [0xFA]
  | .sti => [0xFB]
  | .hlt => [0xF4]
  | .wait => [0x9B]
  | .nop => [0x90]
  | .esc op reg e => ((0x1B : BitVec 5) ++ op) :: encRm16 reg e
  | .joAlias rel => [0x60, rel]
  | .jnoAlias rel => [0x61, rel]
  | .jbAlias rel => [0x62, rel]
  | .jaeAlias rel => [0x63, rel]
  | .jeAlias rel => [0x64, rel]
  | .jneAlias rel => [0x65, rel]
  | .jbeAlias rel => [0x66, rel]
  | .jaAlias rel => [0x67, rel]
  | .jsAlias rel => [0x68, rel]
  | .jnsAlias rel => [0x69, rel]
  | .jpAlias rel => [0x6A, rel]
  | .jnpAlias rel => [0x6B, rel]
  | .jlAlias rel => [0x6C, rel]
  | .jgeAlias rel => [0x6D, rel]
  | .jleAlias rel => [0x6E, rel]
  | .jgAlias rel => [0x6F, rel]
  | .retIwAlias n => 0xC0 :: wordBytes n
  | .retAlias => [0xC1]
  | .retfIwAlias n => 0xC8 :: wordBytes n
  | .retfAlias => [0xC9]
  | .orAlias82 e i => 0x82 :: encRm8 1 e ++ [i]
  | .andAlias82 e i => 0x82 :: encRm8 4 e ++ [i]
  | .xorAlias82 e i => 0x82 :: encRm8 6 e ++ [i]
  | .orAlias83 e i => 0x83 :: encRm16 1 e ++ [i]
  | .andAlias83 e i => 0x83 :: encRm16 4 e ++ [i]
  | .xorAlias83 e i => 0x83 :: encRm16 6 e ++ [i]
  | .movEwSwAlias e r => 0x8C :: encRm16 ((1 : BitVec 1) ++ r.code) e
  | .movSwEwAlias r e => 0x8E :: encRm16 ((1 : BitVec 1) ++ r.code) e
  | .movCsEw e => 0x8E :: encRm16 1 e
  | .popCs => [0x0F]
  | .popEvAlias1 e => 0x8F :: encRm16 1 e
  | .popEvAlias2 e => 0x8F :: encRm16 2 e
  | .popEvAlias3 e => 0x8F :: encRm16 3 e
  | .popEvAlias4 e => 0x8F :: encRm16 4 e
  | .popEvAlias5 e => 0x8F :: encRm16 5 e
  | .popEvAlias6 e => 0x8F :: encRm16 6 e
  | .popEvAlias7 e => 0x8F :: encRm16 7 e
  | .movEbIbAlias1 e i => 0xC6 :: encRm8 1 e ++ [i]
  | .movEbIbAlias2 e i => 0xC6 :: encRm8 2 e ++ [i]
  | .movEbIbAlias3 e i => 0xC6 :: encRm8 3 e ++ [i]
  | .movEbIbAlias4 e i => 0xC6 :: encRm8 4 e ++ [i]
  | .movEbIbAlias5 e i => 0xC6 :: encRm8 5 e ++ [i]
  | .movEbIbAlias6 e i => 0xC6 :: encRm8 6 e ++ [i]
  | .movEbIbAlias7 e i => 0xC6 :: encRm8 7 e ++ [i]
  | .movEvIvAlias1 e i => 0xC7 :: encRm16 1 e ++ wordBytes i
  | .movEvIvAlias2 e i => 0xC7 :: encRm16 2 e ++ wordBytes i
  | .movEvIvAlias3 e i => 0xC7 :: encRm16 3 e ++ wordBytes i
  | .movEvIvAlias4 e i => 0xC7 :: encRm16 4 e ++ wordBytes i
  | .movEvIvAlias5 e i => 0xC7 :: encRm16 5 e ++ wordBytes i
  | .movEvIvAlias6 e i => 0xC7 :: encRm16 6 e ++ wordBytes i
  | .movEvIvAlias7 e i => 0xC7 :: encRm16 7 e ++ wordBytes i
  | .testAlias f => encTestAlias f
  | .pushEvAlias e => 0xFF :: encRm16 7 e
  | .salc => [0xD6]
  | .setmo f => encSetmo f
  | .setmoc f => encSetmoc f
  | .fe2 e => 0xFE :: encRm8 2 e
  | .fe3 e => 0xFE :: encRm8 3 e
  | .fe4 e => 0xFE :: encRm8 4 e
  | .fe5 e => 0xFE :: encRm8 5 e
  | .fe6 e => 0xFE :: encRm8 6 e
  | .fe7 e => 0xFE :: encRm8 7 e
  | .leaReg g r => [0x8D, modrm 3 g.code r.code]
  | .lesReg g r => [0xC4, modrm 3 g.code r.code]
  | .ldsReg g r => [0xC5, modrm 3 g.code r.code]
  | .callFarReg r => [0xFF, modrm 3 3 r.code]
  | .jmpFarReg r => [0xFF, modrm 3 5 r.code]
  | .repMulDiv o f => encGrp3 o.code f

/-! ## An opcode-table word -/

/-- `n` bytes of the number `w`, the least significant first: bit 0 of `w` is bit 0 of the first byte. -/
def bytesOfNat : Nat → Nat → List Byte
  | 0, _ => []
  | n + 1, w => BitVec.ofNat 8 w :: bytesOfNat n (w / 256)

/-- The length in bytes of the longest instruction without prefixes (R62). -/
def maxInstrBytes : Nat := 6

/-- The bytes of a table word: the `nbits` bits it gives, and zeros up to the longest instruction. -/
def tableBytes (nbits w : Nat) : List Byte := bytesOfNat maxInstrBytes (w % 2 ^ nbits)

/-- The instruction this decoder reads from an opcode-table word (no prefix stands before it). -/
def decodeTableWord (nbits w : Nat) : Option Instr :=
  match decode false (tableBytes nbits w) with
  | .ok (i, _) => some i
  | .error _ => none

end Sys2Proof
end

