-- ==== Sys2Proof/Config.lean ====
section
/-! DEFINITION. What the hardware fixes (constants) and what the spec leaves open (free values: opaque, so that nothing
can be proved of their value). Each free value is applied to the counter `State.draws`, which every use advances, so that
each use is a fresh draw (00_scope.md R10, R14). -/

namespace Sys2Proof.Config

/-- The prefetch queue's capacity in bytes (00_scope.md R9). -/
def queueSize : Nat := 4

/-- FREE VALUE: how many bytes the BIU appends at a fill point, before it is bounded by the free space
(the draw FILL of 20_memory.md R58; notes/assumptions/7.md). -/
opaque fill : Nat → Nat

/-- FREE VALUE: a flag the spec leaves undefined (`any_bit()`, 00_scope.md R14; notes/assumptions/8.md). -/
opaque freeBit : Nat → Bool

/-- FREE VALUE: AL after DAA or DAS on an input outside BCD when DAA_NONBCD is `any` (41_arithmetic.md R117;
notes/assumptions/9.md). -/
opaque freeByte : Nat → Byte

/-- FREE VALUE: what the bus collaborator answers to a byte read of a port (20_memory.md R42,
93_implementation_defined.md U18; notes/assumptions/5.md). -/
opaque portByte : Nat → Word → Byte

/-- FREE VALUE: what the bus collaborator answers to a word read of a port (20_memory.md R42,
93_implementation_defined.md U18; notes/assumptions/5.md). -/
opaque portWord : Nat → Word → Word

/-- A bound on the prefix bytes in front of one instruction: `queueSize` queued bytes and the 2^16 bytes of the code
segment. An instruction with more has prefixes at every offset of the segment, so decoding never ends
(notes/assumptions/12.md). -/
def maxPrefixes : Nat := 65540

end Sys2Proof.Config
end

