-- ==== Sys2Proof/Machine/State.lean ====
section
/-! DEFINITION. The machine's state: the record of 10_state.md R19, the memory behind the bus, the parameters and host
inputs of 00_scope.md R10, and four fields of the model's own (`pfx`, `rejects`, `busLog`, `draws`). Plain data. -/

namespace Sys2Proof.Machine

/-- The eight general registers (R20). -/
structure Gprs where
  ax : Word
  cx : Word
  dx : Word
  bx : Word
  sp : Word
  bp : Word
  si : Word
  di : Word
  deriving DecidableEq, Repr

/-- The four segment registers (R23). -/
structure Sregs where
  es : Word
  cs : Word
  ss : Word
  ds : Word
  deriving DecidableEq, Repr

/-- The nine flags (R26): CF, PF, AF, ZF, SF, TF, IF (`ifl`), DF and OF (`ofl`). The reserved bits of the 16-bit image are
hard-wired and have no storage (R27). -/
structure Flags where
  cf : Bool
  pf : Bool
  af : Bool
  zf : Bool
  sf : Bool
  tf : Bool
  ifl : Bool
  df : Bool
  ofl : Bool
  deriving DecidableEq, Repr

/-- The prefixes of the unit of work being executed: the locals `S`, `seg_ovr`, `rep_kind`, `lock`, `f1_seen` of
`decode()` (30_encoding.md R71) and how many prefix bytes there are. MODEL'S OWN FIELD between steps, where it is
`Prefixes.none` (DESIGN CHOICE, notes/assumptions/13.md). -/
structure Prefixes where
  start : Word
  count : Nat
  seg : Option SReg
  rep : Option RepKind
  lock : Bool
  f1 : Bool
  deriving DecidableEq, Repr

/-- No prefix. -/
def Prefixes.none : Prefixes := ⟨0, 0, .none, .none, false, false⟩

/-- A repeated string instruction in progress (R35): the instruction, its prefixes (`pfx.start` is the spec's
`rep.start`) and the offset after it (`rep.end`). -/
structure Rep where
  ins : Instr
  pfx : Prefixes
  endIp : Word
  deriving DecidableEq, Repr

/-- A terminal failure (R36, 60_exceptions.md R201). -/
inductive Terminal where
  /-- The bus collaborator rejected an access (60_exceptions.md R202). -/
  | busFault
  /-- A refused encoding, named by its bytes (60_exceptions.md R203). -/
  | unimplemented (reason : String)
  deriving DecidableEq, Repr

/-- UNDOC_POLICY (00_scope.md R10, 47_undocumented.md R183). -/
inductive UndocPolicy where
  | refuse | emulate
  deriving DecidableEq, Repr

/-- REP_RESUME (00_scope.md R10, 43_string.md R141). -/
inductive RepResume where
  | allPrefixes | lastPrefixOnly
  deriving DecidableEq, Repr

/-- DAA_NONBCD (00_scope.md R10, 41_arithmetic.md R117). -/
inductive DaaPolicy where
  | algorithm | any
  deriving DecidableEq, Repr

/-- The parameters the source leaves open (00_scope.md R10). No step changes them (notes/assumptions/1.md). -/
structure Params where
  undoc : UndocPolicy
  segLoadInhibit : Bool
  repResume : RepResume
  daaNonBcd : DaaPolicy
  deriving DecidableEq, Repr

/-- The defaults of 00_scope.md R10. -/
def Params.default : Params := ⟨.refuse, true, .allPrefixes, .algorithm⟩

/-- The two spaces of the bus (20_memory.md R41, R42). -/
inductive Space where
  | memory | io
  deriving DecidableEq, Repr

/-- Calls of the bus contract that the collaborator answers with a bus fault (20_memory.md R40): the reads, or the writes, of
a range of addresses, all of them (`call = none`) or only the call with this number, calls being numbered by how many
transactions were made before them. So any call may be rejected, whatever was answered to the same access before
(notes/assumptions/4.md). -/
structure Reject where
  space : Space
  write : Bool
  lo : Nat
  hi : Nat
  call : Option Nat
  deriving DecidableEq, Repr

/-- One call of the bus contract (20_memory.md R40), with the value it carried: a prefetch or decode read, a data read,
a data write, a port read or write (byte or word). -/
inductive BusOp where
  | fetch (a : Addr) (v : Byte)
  | read (a : Addr) (v : Byte)
  | write (a : Addr) (v : Byte)
  | portRead8 (p : Word) (v : Byte)
  | portRead16 (p : Word) (v : Word)
  | portWrite8 (p : Word) (v : Byte)
  | portWrite16 (p : Word) (v : Word)
  deriving DecidableEq, Repr

/-- Memory: address and byte pairs, addresses strictly rising, no pair equal to what an unlisted address reads as. -/
abbrev Memory := List Host.Cell

/-- What an address that is not listed reads as. DESIGN CHOICE (the platform's memory contents are outside the spec, R53;
notes/assumptions/3.md): 00h, the value the spec's own programs assume of "other memory" (95_test_vectors.md section 14).
Unsafe. -/
def Memory.unlisted : Byte := 0

/-- The state of the machine (R19, and the fields named in the file's header). -/
structure State where
  /-- R20. -/
  gpr : Gprs
  /-- R23. -/
  sreg : Sregs
  /-- R24. -/
  ip : Word
  /-- R26. -/
  flags : Flags
  /-- The prefetch queue (R31). -/
  queue : List Byte
  /-- The BIU fetch cursor (R31). -/
  fetchIp : Word
  /-- R32. -/
  halted : Bool
  /-- R33. -/
  internalReq : Option Byte
  /-- Pending non-maskable requests, oldest first (R33). -/
  nmiQ : List Byte
  /-- Pending maskable requests, oldest first (R33). -/
  intrQ : List Byte
  /-- R33. -/
  ssLatch : Bool
  /-- R34. -/
  inhibit : Bool
  /-- R35. -/
  rep : Option Rep
  /-- R36. -/
  fault : Option Terminal
  /-- The memory behind the bus (20_memory.md R41). -/
  mem : Memory
  /-- 00_scope.md R10. -/
  params : Params
  /-- The TEST input of WAIT, a host input (46_processor_control.md R178). -/
  testAsserted : Bool
  /-- MODEL'S OWN: the prefixes of the unit being executed (notes/assumptions/13.md). -/
  pfx : Prefixes
  /-- MODEL'S OWN: what the bus collaborator rejects (notes/assumptions/4.md). -/
  rejects : List Reject
  /-- MODEL'S OWN: the bus transactions so far, newest first (notes/assumptions/6.md). -/
  busLog : List BusOp
  /-- MODEL'S OWN: the counter of draws (notes/assumptions/7.md). -/
  draws : Nat
  deriving DecidableEq, Repr

/-- All nine flags 0 (R38). -/
def Flags.reset : Flags := ⟨false, false, false, false, false, false, false, false, false⟩

/-- DESIGN CHOICE: the value the model names for RESET_GPR (R38 gives a draw; notes/assumptions/2.md). Unsafe. -/
def Gprs.reset : Gprs := ⟨0, 0, 0, 0, 0, 0, 0, 0⟩

/-- R38: CS = FFFFh, the others 0. -/
def Sregs.reset : Sregs := ⟨0, 0xFFFF, 0, 0⟩

/-- The machine right after reset (R38, 70_reset_and_hazards.md R224), with no memory listed and the default parameters. -/
def State.reset : State where
  gpr := Gprs.reset
  sreg := Sregs.reset
  ip := 0
  flags := Flags.reset
  queue := []
  fetchIp := 0
  halted := false
  internalReq := none
  nmiQ := []
  intrQ := []
  ssLatch := false
  inhibit := false
  rep := none
  fault := none
  mem := []
  params := Params.default
  testAsserted := true
  pfx := Prefixes.none
  rejects := []
  busLog := []
  draws := 0

/-- Why a step stops without a next state. -/
inductive Fault where
  /-- Raised by `step` in a state whose `fault` is set: "every later step() returns it without doing anything"
  (10_state.md R36, 60_exceptions.md R217). Safe. -/
  | stopped (t : Terminal)
  /-- Raised by `step` when the bytes at the program counter are prefixes all around the code segment and the bus accepts
  every fetch of them, so that the decode loop of 30_encoding.md R71 does not end (notes/assumptions/12.md). Safe: a stuck
  state. -/
  | endlessPrefixes
  deriving DecidableEq, Repr

/-- Why an instruction has no meaning. -/
inductive Refusal where
  /-- Raised by `exec` for an instruction that is not modelled yet; no arm uses it. Safe. -/
  | notModelled (mnemonic : String)
  deriving DecidableEq, Repr

/-- What a meaning and a step answer. -/
abbrev Out := Host.Outcome State Fault Refusal

end Sys2Proof.Machine
end

