-- ==== Sys2Proof/Machine/Flags.lean ====
section
/-! DEFINITION. Results and flags as pure functions: the flags image (10_state.md R27), the helpers of 00_scope.md R15,
the eight ALU operations (41_arithmetic.md R105 to R109, 42_logic_shift.md R125 to R127), INC, DEC, NEG, the one-bit
shift steps (42_logic_shift.md R131 to R137), the decimal adjustments (41_arithmetic.md R117 to R122) and the jump
conditions (44_control_transfer.md R147). A flag the spec leaves undefined is an argument, drawn by the caller. -/

namespace Sys2Proof.Machine

/-! ## The flags image (R27) -/

/-- `b << n` in a word. -/
def flagBit (b : Bool) (n : Nat) : Word := bif b then 1#16 <<< n else 0

/-- `flags_image()` (R27): 0xF002 with the nine flags at their positions. -/
def flagsImage (f : Flags) : Word :=
  0xF002 ||| flagBit f.cf 0 ||| flagBit f.pf 2 ||| flagBit f.af 4 ||| flagBit f.zf 6 ||| flagBit f.sf 7
    ||| flagBit f.tf 8 ||| flagBit f.ifl 9 ||| flagBit f.df 10 ||| flagBit f.ofl 11

/-- `load_flags(v)` (R27): the other bits are ignored. -/
def loadFlags (v : Word) : Flags where
  cf := v.getLsbD 0
  pf := v.getLsbD 2
  af := v.getLsbD 4
  zf := v.getLsbD 6
  sf := v.getLsbD 7
  tf := v.getLsbD 8
  ifl := v.getLsbD 9
  df := v.getLsbD 10
  ofl := v.getLsbD 11

/-- SAHF's part of the flags: SF, ZF, AF, PF, CF from AH (40_data_transfer.md R100). -/
def sahfFlags (ah : Byte) (f : Flags) : Flags :=
  { f with sf := ah.getLsbD 7, zf := ah.getLsbD 6, af := ah.getLsbD 4, pf := ah.getLsbD 2, cf := ah.getLsbD 0 }

/-! ## The helpers of R15 -/

/-- The number of one bits of a byte. -/
def ones (b : Byte) : Nat :=
  (b.getLsbD 0).toNat + (b.getLsbD 1).toNat + (b.getLsbD 2).toNat + (b.getLsbD 3).toNat
    + (b.getLsbD 4).toNat + (b.getLsbD 5).toNat + (b.getLsbD 6).toNat + (b.getLsbD 7).toNat

/-- `PF_of`: even parity of the low byte (R15). -/
def pfOf {w : Nat} (r : BitVec w) : Bool := ones (r.extractLsb' 0 8) % 2 == 0

/-- `ZF_of` (R15). -/
def zfOf {w : Nat} (r : BitVec w) : Bool := r == 0

/-- `SF_of` (R15). -/
def sfOf {w : Nat} (r : BitVec w) : Bool := r.getLsbD (w - 1)

/-- `set_szp(r)` (R15). -/
def setSzp {w : Nat} (r : BitVec w) (f : Flags) : Flags :=
  { f with sf := sfOf r, zf := zfOf r, pf := pfOf r }

/-! ## The eight ALU operations (41_arithmetic.md R104) -/

/-- The ALU operations in the order of their numbers `k` (R104). -/
inductive AluOp where
  | add | or | adc | sbb | and | sub | xor | cmp
  deriving DecidableEq, Repr

/-- The exact sum `a + c + carry` (R103, R105, R106). -/
def sumOf {w : Nat} (a c : BitVec w) (carry : Bool) : Nat := a.toNat + c.toNat + carry.toNat

/-- The exact difference `a - c - borrow` (R103, R107, R108). -/
def diffOf {w : Nat} (a c : BitVec w) (borrow : Bool) : Int := (a.toNat : Int) - c.toNat - borrow.toNat

/-- The flags of an addition (R105, R106). -/
def addFlags {w : Nat} (a c : BitVec w) (carry : Bool) (f : Flags) : Flags :=
  let r := BitVec.ofNat w (sumOf a c carry)
  { setSzp r f with
    cf := decide (2 ^ w ≤ sumOf a c carry)
    ofl := ((a ^^^ r) &&& (c ^^^ r)).getLsbD (w - 1)
    af := (a ^^^ c ^^^ r).getLsbD 4 }

/-- The flags of a subtraction (R107, R108). -/
def subFlags {w : Nat} (a c : BitVec w) (borrow : Bool) (f : Flags) : Flags :=
  let r := BitVec.ofInt w (diffOf a c borrow)
  { setSzp r f with
    cf := decide (a.toNat < c.toNat + borrow.toNat)
    ofl := ((a ^^^ c) &&& (a ^^^ r)).getLsbD (w - 1)
    af := (a ^^^ c ^^^ r).getLsbD 4 }

/-- The flags of AND, OR, XOR and TEST; AF is undefined, so it is the draw `af` (42_logic_shift.md R125 to R128). -/
def logicFlags {w : Nat} (r : BitVec w) (af : Bool) (f : Flags) : Flags :=
  { setSzp r f with cf := false, ofl := false, af := af }

/-- The result of an ALU operation, `cf` being CF before it. -/
def aluResult {w : Nat} (k : AluOp) (a c : BitVec w) (cf : Bool) : BitVec w :=
  match k with
  | .add => BitVec.ofNat w (sumOf a c false)
  | .or => a ||| c
  | .adc => BitVec.ofNat w (sumOf a c cf)
  | .sbb => BitVec.ofInt w (diffOf a c cf)
  | .and => a &&& c
  | .sub | .cmp => BitVec.ofInt w (diffOf a c false)
  | .xor => a ^^^ c

/-- The flags after an ALU operation; `af` is the draw for an undefined AF. -/
def aluFlags {w : Nat} (k : AluOp) (a c : BitVec w) (af : Bool) (f : Flags) : Flags :=
  match k with
  | .add => addFlags a c false f
  | .adc => addFlags a c f.cf f
  | .sub | .cmp => subFlags a c false f
  | .sbb => subFlags a c f.cf f
  | .and => logicFlags (a &&& c) af f
  | .or => logicFlags (a ||| c) af f
  | .xor => logicFlags (a ^^^ c) af f

/-- Does the operation leave AF undefined (and so draw it)? -/
def AluOp.drawsAf : AluOp → Bool
  | .and | .or | .xor => true
  | .add | .adc | .sbb | .sub | .cmp => false

/-! ## INC, DEC, NEG (R110 to R112) -/

/-- R110; CF is not written. -/
def incFlags {w : Nat} (a : BitVec w) (f : Flags) : Flags :=
  { setSzp (a + 1) f with
    ofl := a.toNat == 2 ^ (w - 1) - 1
    af := a.toNat % 16 == 15 }

/-- R111; CF is not written. -/
def decFlags {w : Nat} (a : BitVec w) (f : Flags) : Flags :=
  { setSzp (a - 1) f with
    ofl := a.toNat == 2 ^ (w - 1)
    af := a.toNat % 16 == 0 }

/-- R112. -/
def negFlags {w : Nat} (a : BitVec w) (f : Flags) : Flags :=
  { setSzp (0 - a) f with
    cf := a.toNat != 0
    ofl := a.toNat == 2 ^ (w - 1)
    af := a.toNat % 16 != 0 }

/-! ## Multiplication and division -/

/-- Quotient and remainder of DIV: `none` when the divisor is 0 or the quotient does not fit `w` bits (R115). -/
def divResult (w : Nat) (n d : Nat) : Option (BitVec w × BitVec w) :=
  if d = 0 ∨ 2 ^ w ≤ n / d then none else some (BitVec.ofNat w (n / d), BitVec.ofNat w (n % d))

/-- Quotient, truncated toward zero, and remainder of IDIV: `none` when the divisor is 0 or the quotient is outside
`-(2^(w-1) - 1) .. 2^(w-1) - 1` (R116). -/
def idivResult (w : Nat) (n d : Int) : Option (BitVec w × BitVec w) :=
  let q := Int.tdiv n d
  if d = 0 ∨ 2 ^ (w - 1) - 1 < q ∨ q < -(2 ^ (w - 1) - 1) then none
  else some (BitVec.ofInt w q, BitVec.ofInt w (n - q * d))

/-! ## Shifts and rotates (42_logic_shift.md) -/

inductive ShiftOp where
  | rol | ror | rcl | rcr | shl | shr | sar
  deriving DecidableEq, Repr

/-- The one-bit step of R131 to R137 on the pair (operand, CF). -/
def shiftStep {w : Nat} (op : ShiftOp) (p : BitVec w × Bool) : BitVec w × Bool :=
  let x := p.1
  let top := x.getLsbD (w - 1)
  let low := x.getLsbD 0
  let topBit (b : Bool) : BitVec w := bif b then BitVec.ofNat w (2 ^ (w - 1)) else 0
  let lowBit (b : Bool) : BitVec w := bif b then 1 else 0
  match op with
  | .rol => ((x <<< 1) ||| lowBit top, top)
  | .ror => ((x >>> 1) ||| topBit low, low)
  | .rcl => ((x <<< 1) ||| lowBit p.2, top)
  | .rcr => ((x >>> 1) ||| topBit p.2, low)
  | .shl => (x <<< 1, top)
  | .shr => (x >>> 1, low)
  | .sar => ((x >>> 1) ||| topBit top, low)

/-- `n` steps (R130: the operation is `n` repetitions of its one-bit step). -/
def shiftN {w : Nat} (op : ShiftOp) : Nat → BitVec w × Bool → BitVec w × Bool
  | 0, p => p
  | n + 1, p => shiftN op n (shiftStep op p)

/-- OF after a count of 1: `x` the original operand, `r` the result, `cf` the new CF (R131 to R137). -/
def shiftOf {w : Nat} (op : ShiftOp) (x r : BitVec w) (cf : Bool) : Bool :=
  match op with
  | .rol | .rcl | .shl => r.getLsbD (w - 1) != cf
  | .ror | .rcr => r.getLsbD (w - 1) != r.getLsbD (w - 2)
  | .shr => x.getLsbD (w - 1)
  | .sar => false

/-- Is it a shift (SHL, SHR, SAR), which writes SF, ZF, PF and leaves AF undefined (R130)? -/
def ShiftOp.isShift : ShiftOp → Bool
  | .shl | .shr | .sar => true
  | .rol | .ror | .rcl | .rcr => false

/-! ## Decimal adjustment -/

/-- R117: AL, CF and AF after DAA. -/
def daaResult (al : Byte) (af cf : Bool) : Byte × Bool × Bool :=
  let low := decide (9 < al.toNat % 16) || af
  let high := decide (0x99 < al.toNat) || cf
  let al1 := if low then al + 6 else al
  let al2 := if high then al1 + 0x60 else al1
  (al2, high, low)

/-- R118: AL, CF and AF after DAS. -/
def dasResult (al : Byte) (af cf : Bool) : Byte × Bool × Bool :=
  let low := decide (9 < al.toNat % 16) || af
  let high := decide (0x99 < al.toNat) || cf
  let al1 := if low then al - 6 else al
  let cf1 := low && (cf || decide (al.toNat < 6))
  let al2 := if high then al1 - 0x60 else al1
  (al2, high || cf1, low)

/-- Is (AL, AF, CF) what an addition of two packed-BCD bytes with carry leaves (R117)? The low digits and the carry give
the low nibble and AF, the high digits and AF the high nibble and CF (DEDUCED, notes/assumptions/9.md). -/
def bcdSum (al : Byte) (af cf : Bool) : Bool :=
  let digits := List.range 10
  (digits.any fun x => digits.any fun y => [0, 1].any fun c =>
      ((x + y + c) % 16 == al.toNat % 16) && (decide (15 < x + y + c) == af))
    && (digits.any fun x => digits.any fun y =>
      ((x + y + af.toNat) % 16 == al.toNat / 16) && (decide (15 < x + y + af.toNat) == cf))

/-- Is (AL, AF, CF) what a subtraction of two packed-BCD bytes with borrow leaves (R118)? (DEDUCED,
notes/assumptions/9.md.) -/
def bcdDiff (al : Byte) (af cf : Bool) : Bool :=
  let digits := List.range 10
  (digits.any fun x => digits.any fun y => [0, 1].any fun b =>
      ((x + 16 - y - b) % 16 == al.toNat % 16) && (decide (x < y + b) == af))
    && (digits.any fun x => digits.any fun y =>
      ((x + 16 - y - af.toNat) % 16 == al.toNat / 16) && (decide (x < y + af.toNat) == cf))

/-- R119: AL, AH and the common value of AF and CF after AAA. -/
def aaaResult (al ah : Byte) (af : Bool) : Byte × Byte × Bool :=
  let adj := decide (9 < al.toNat % 16) || af
  ((if adj then al + 6 else al) &&& 0x0F, if adj then ah + 1 else ah, adj)

/-- R120: AL, AH and the common value of AF and CF after AAS. -/
def aasResult (al ah : Byte) (af : Bool) : Byte × Byte × Bool :=
  let adj := decide (9 < al.toNat % 16) || af
  ((if adj then al - 6 else al) &&& 0x0F, if adj then ah - 1 else ah, adj)

/-! ## Conditions (44_control_transfer.md R147) -/

/-- The sixteen conditions, in the order of their numbers `cc`. -/
inductive Cond where
  | o | no | b | ae | e | ne | be | a | s | ns | p | np | l | ge | le | g
  deriving DecidableEq, Repr

/-- When the jump is taken (R147). -/
def Cond.holds (c : Cond) (f : Flags) : Bool :=
  match c with
  | .o => f.ofl
  | .no => !f.ofl
  | .b => f.cf
  | .ae => !f.cf
  | .e => f.zf
  | .ne => !f.zf
  | .be => f.cf || f.zf
  | .a => !f.cf && !f.zf
  | .s => f.sf
  | .ns => !f.sf
  | .p => f.pf
  | .np => !f.pf
  | .l => f.sf != f.ofl
  | .ge => f.sf == f.ofl
  | .le => f.zf || (f.sf != f.ofl)
  | .g => !f.zf && (f.sf == f.ofl)

end Sys2Proof.Machine
end

