-- ==== Sys2Proof/Machine/Ops.lean ====
section
/-! DEFINITION. The named operations of the machine: registers, memory in canonical form, the bus with its fill points
and its rejections, the prefetch queue, the stack, requests, refusal, and taking an interrupt (60_exceptions.md R212)
with the return from it (45_interrupt_instructions.md R169). -/

namespace Sys2Proof.Machine

/-! ## Results of an operation -/

/-- What an operation answers: a value with the state after it, or the state in which the unit stopped with a terminal
failure (60_exceptions.md R202: "the current `step()` stops at once"). -/
inductive Res (α : Type) where
  | ok (a : α) (s : State)
  | stop (s : State)

/-- Go on with `f` unless the unit has stopped. -/
def Res.bind {α β : Type} (r : Res α) (f : α → State → Res β) : Res β :=
  match r with
  | .ok a s => f a s
  | .stop s => .stop s

/-- Apply a state change at the end. -/
def Res.andThen {α : Type} (r : Res α) (f : α → State → State) : Res Unit :=
  r.bind fun a s => .ok () (f a s)

/-- The state an operation ends in, whether or not it stopped. -/
def Res.state {α : Type} : Res α → State
  | .ok _ s => s
  | .stop s => s

/-- The answer of a meaning: the next state; a unit that stopped has the failure in its `fault`
(notes/assumptions/10.md). -/
def Res.out {α : Type} (r : Res α) : Out := .next r.state

/-! ## Registers -/

/-- R20. -/
def Gprs.get (g : Gprs) (r : Reg16) : Word :=
  match r with
  | .ax => g.ax | .cx => g.cx | .dx => g.dx | .bx => g.bx | .sp => g.sp | .bp => g.bp | .si => g.si | .di => g.di

def Gprs.set (g : Gprs) (r : Reg16) (v : Word) : Gprs :=
  match r with
  | .ax => { g with ax := v }
  | .cx => { g with cx := v }
  | .dx => { g with dx := v }
  | .bx => { g with bx := v }
  | .sp => { g with sp := v }
  | .bp => { g with bp := v }
  | .si => { g with si := v }
  | .di => { g with di := v }

/-- The 16-bit register an 8-bit register is a half of (R21). -/
def wholeReg : Reg8 → Reg16
  | .al | .ah => .ax
  | .cl | .ch => .cx
  | .dl | .dh => .dx
  | .bl | .bh => .bx

/-- Is it the high half (R21)? -/
def isHighHalf : Reg8 → Bool
  | .al | .cl | .dl | .bl => false
  | .ah | .ch | .dh | .bh => true

def lowByte (v : Word) : Byte := v.extractLsb' 0 8

def highByte (v : Word) : Byte := v.extractLsb' 8 8

/-- `hi ++ lo`. -/
def wordOf (hi lo : Byte) : Word := hi ++ lo

/-- R21. -/
def Gprs.get8 (g : Gprs) (r : Reg8) : Byte :=
  if isHighHalf r then highByte (g.get (wholeReg r)) else lowByte (g.get (wholeReg r))

/-- R21: only the named half changes. -/
def Gprs.set8 (g : Gprs) (r : Reg8) (v : Byte) : Gprs :=
  g.set (wholeReg r)
    (if isHighHalf r then wordOf v (lowByte (g.get (wholeReg r))) else wordOf (highByte (g.get (wholeReg r))) v)

/-- R23. -/
def Sregs.get (g : Sregs) (r : SReg) : Word :=
  match r with
  | .es => g.es | .cs => g.cs | .ss => g.ss | .ds => g.ds

def Sregs.set (g : Sregs) (r : SReg) (v : Word) : Sregs :=
  match r with
  | .es => { g with es := v }
  | .cs => { g with cs := v }
  | .ss => { g with ss := v }
  | .ds => { g with ds := v }

def State.reg16 (s : State) (r : Reg16) : Word := s.gpr.get r

def State.reg8 (s : State) (r : Reg8) : Byte := s.gpr.get8 r

def State.seg (s : State) (r : SReg) : Word := s.sreg.get r

def State.setReg16 (s : State) (r : Reg16) (v : Word) : State := { s with gpr := s.gpr.set r v }

def State.setReg8 (s : State) (r : Reg8) (v : Byte) : State := { s with gpr := s.gpr.set8 r v }

def State.setSeg (s : State) (r : SReg) (v : Word) : State := { s with sreg := s.sreg.set r v }

def State.setFlags (s : State) (f : Flags) : State := { s with flags := f }

def State.setIp (s : State) (v : Word) : State := { s with ip := v }

/-! ## Free values -/

/-- The `k`-th free bit of this draw (00_scope.md R14 `any_bit()`). -/
def State.freeBit (s : State) (k : Nat) : Bool := Config.freeBit (s.draws + k)

/-- Go past `n` draws. -/
def State.drew (s : State) (n : Nat) : State := { s with draws := s.draws + n }

/-! ## Memory -/

/-- The byte at a physical address (20_memory.md R41). -/
def Memory.read : Memory → Addr → Byte
  | [], _ => Memory.unlisted
  | (k, b) :: r, a => if k = a.toNat then b else Memory.read r a

/-- The memory with the byte `v` at `a`, in canonical form. -/
def Memory.write : Memory → Addr → Byte → Memory
  | [], a, v => if v = Memory.unlisted then [] else [(a.toNat, v)]
  | (k, b) :: r, a, v =>
    if a.toNat < k then if v = Memory.unlisted then (k, b) :: r else (a.toNat, v) :: (k, b) :: r
    else if a.toNat = k then if v = Memory.unlisted then r else (k, v) :: r
    else (k, b) :: Memory.write r a v

/-- Every listed address is at least `lo` and below 2^20, addresses rise strictly, and no pair repeats the unlisted
value. -/
def Memory.wfFrom : Nat → Memory → Bool
  | _, [] => true
  | lo, (k, b) :: r => decide (lo ≤ k) && decide (k < 2 ^ 20) && (b != Memory.unlisted) && Memory.wfFrom (k + 1) r

/-- The canonical form of memory. -/
def Memory.wf (m : Memory) : Bool := Memory.wfFrom 0 m

/-! ## Addresses -/

/-- `phys(seg, off)` (20_memory.md R43). -/
def phys (seg off : Word) : Addr := BitVec.ofNat 20 (seg.toNat * 16 + off.toNat)

/-! ## The bus (20_memory.md R40): accepted or rejected transactions -/

/-- Does this entry reject the access when it is call number `n`? -/
def Reject.covers (r : Reject) (n : Nat) (sp : Space) (write : Bool) (a : Nat) : Bool :=
  decide (r.space = sp) && (r.write == write) && decide (r.lo ≤ a) && decide (a ≤ r.hi) && r.call.all fun m => m == n

/-- Does the bus collaborator reject this access when it is call number `n` (R40)? -/
def State.rejectedAt (s : State) (n : Nat) (sp : Space) (write : Bool) (a : Nat) : Bool :=
  s.rejects.any fun r => r.covers n sp write a

/-- Does the bus collaborator reject this access, made now (R40)? -/
def State.rejected (s : State) (sp : Space) (write : Bool) (a : Nat) : Bool :=
  s.rejectedAt s.busLog.length sp write a

/-- Record a transaction. -/
def State.log (s : State) (o : BusOp) : State := { s with busLog := o :: s.busLog }

/-- The bus fault: the unit stops with every effect already made (60_exceptions.md R202). -/
def State.busFault (s : State) : State := { s with fault := some .busFault }

/-! ## Prefetch queue (20_memory.md R57 to R59) -/

/-- The physical address of the `j`-th byte the BIU will read. -/
def State.fetchAddr (s : State) (j : Nat) : Addr := phys s.sreg.cs (s.fetchIp + BitVec.ofNat 16 j)

/-- The next `k` bytes the BIU will read. -/
def State.fetchBytes (s : State) (k : Nat) : List Byte :=
  (List.range k).map fun j => s.mem.read (s.fetchAddr j)

/-- The same reads as transactions, newest first. -/
def State.fetchOps (s : State) (k : Nat) : List BusOp :=
  ((List.range k).map fun j => BusOp.fetch (s.fetchAddr j) (s.mem.read (s.fetchAddr j))).reverse

/-- `k` bytes appended to the queue (R58). -/
def State.appended (s : State) (k : Nat) : State :=
  { s with
    queue := s.queue ++ s.fetchBytes k
    fetchIp := s.fetchIp + BitVec.ofNat 16 k
    busLog := s.fetchOps k ++ s.busLog }

/-- Is one of the next `k` fetch reads rejected, the `j`-th being `j` calls ahead? -/
def State.fetchRejected (s : State) (k : Nat) : Bool :=
  s.rejects.any fun r => (List.range k).any fun j => r.covers (s.busLog.length + j) .memory false (s.fetchAddr j).toNat

/-- How many of the next `k` fetch reads come before the first rejected one. -/
def State.acceptedFetches (s : State) (k : Nat) : Nat :=
  ((List.range k).takeWhile fun j => !s.rejectedAt (s.busLog.length + j) .memory false (s.fetchAddr j).toNat).length

/-- Append `k` bytes, one read at a time; a rejected read is a bus fault (R58, 60_exceptions.md R202, decision D47). -/
def prefetch (k : Nat) (s : State) : Res Unit :=
  if s.fetchRejected k then .stop (s.appended (s.acceptedFetches k)).busFault
  else .ok () (s.appended k)

/-- How many bytes the BIU appends here: any number up to the free space (the draw FILL of R58). -/
def State.fillCount (s : State) : Nat :=
  Config.fill s.draws % (Config.queueSize - s.queue.length + 1)

/-- A fill point (R58). -/
def fill (s : State) : Res Unit := prefetch s.fillCount (s.drew 1)

/-- `flush()`: empty the queue and fetch from IP (R59). -/
def State.flush (s : State) : State := { s with queue := [], fetchIp := s.ip }

/-- `IP <- target; flush()`: a control transfer inside CS (R59). -/
def State.jumpTo (s : State) (t : Word) : State := (s.setIp t).flush

/-- The byte that `fetch_next_byte()` would supply `i` bytes ahead (R57): from the queue while it lasts, then from memory
at the fetch cursor. -/
def State.peek (s : State) (i : Nat) : Byte :=
  match s.queue[i]? with
  | some b => b
  | none => s.mem.read (s.fetchAddr (i - s.queue.length))

/-- Consume the next `n` instruction bytes, each by `fetch_next_byte()` (R57): the queue empties from the front, bytes
beyond it are read from memory, IP goes forward by one for each byte supplied. -/
def consume (n : Nat) (s : State) : Res Unit :=
  match prefetch (n - s.queue.length) s with
  | .ok _ t => .ok () { t with queue := t.queue.drop n, ip := t.ip + BitVec.ofNat 16 n }
  | .stop t => .stop { t with queue := [], ip := t.ip + BitVec.ofNat 16 t.queue.length }

/-! ## Data transactions -/

/-- Where a transaction stands: in the execution phase of a unit, where a fill point comes before it (R58), or in an
interrupt entry, where none does (DEDUCED, notes/assumptions/15.md). -/
inductive Phase where
  | exec | entry
  deriving DecidableEq, Repr

/-- The fill point before a transaction (R58). -/
def fillPoint (ph : Phase) (s : State) : Res Unit :=
  match ph with
  | .exec => fill s
  | .entry => .ok () s

/-- `MemRead(pa, 1)` (00_scope.md R13). -/
def memRead (ph : Phase) (a : Addr) (s : State) : Res Byte :=
  (fillPoint ph s).bind fun _ s =>
    if s.rejected .memory false a.toNat then .stop s.busFault
    else .ok (s.mem.read a) (s.log (.read a (s.mem.read a)))

/-- `MemWrite(pa, 1, v)` (00_scope.md R13). -/
def memWrite (ph : Phase) (a : Addr) (v : Byte) (s : State) : Res Unit :=
  (fillPoint ph s).bind fun _ s =>
    if s.rejected .memory true a.toNat then .stop s.busFault
    else .ok () ({ s with mem := s.mem.write a v }.log (.write a v))

/-- `Load(seg, off, 1)` (00_scope.md R13). -/
def load8 (ph : Phase) (seg off : Word) (s : State) : Res Byte := memRead ph (phys seg off) s

/-- `Load(seg, off, 2)`: low byte first, the high byte at `trunc_16(off + 1)` of the same segment (R47, R48). -/
def load16 (ph : Phase) (seg off : Word) (s : State) : Res Word :=
  (memRead ph (phys seg off) s).bind fun lo s =>
    (memRead ph (phys seg (off + 1)) s).bind fun hi s => .ok (wordOf hi lo) s

/-- `Store(seg, off, 1, v)` (00_scope.md R13). -/
def store8 (ph : Phase) (seg off : Word) (v : Byte) (s : State) : Res Unit := memWrite ph (phys seg off) v s

/-- `Store(seg, off, 2, v)`: low byte first (R47, R48). -/
def store16 (ph : Phase) (seg off v : Word) (s : State) : Res Unit :=
  (memWrite ph (phys seg off) (lowByte v) s).bind fun _ s => memWrite ph (phys seg (off + 1)) (highByte v) s

/-- `IoRead(port, 1)` (R42): the value is the collaborator's, a free value (notes/assumptions/5.md). -/
def ioRead8 (p : Word) (s : State) : Res Byte :=
  (fill s).bind fun _ s =>
    if s.rejected .io false p.toNat then .stop s.busFault
    else
      let v := Config.portByte s.draws p
      .ok v ((s.drew 1).log (.portRead8 p v))

/-- `IoRead(port, 2)` (R42): one call of the 16-bit form. -/
def ioRead16 (p : Word) (s : State) : Res Word :=
  (fill s).bind fun _ s =>
    if s.rejected .io false p.toNat then .stop s.busFault
    else
      let v := Config.portWord s.draws p
      .ok v ((s.drew 1).log (.portRead16 p v))

/-- `IoWrite(port, 1, v)` (R42). -/
def ioWrite8 (p : Word) (v : Byte) (s : State) : Res Unit :=
  (fill s).bind fun _ s =>
    if s.rejected .io true p.toNat then .stop s.busFault else .ok () (s.log (.portWrite8 p v))

/-- `IoWrite(port, 2, v)` (R42): one call of the 16-bit form. -/
def ioWrite16 (p : Word) (v : Word) (s : State) : Res Unit :=
  (fill s).bind fun _ s =>
    if s.rejected .io true p.toNat then .stop s.busFault else .ok () (s.log (.portWrite16 p v))

/-! ## The stack (40_data_transfer.md R79) -/

/-- `push16(v)`: SP goes down first, then the word is stored at SS:SP. -/
def push16 (ph : Phase) (v : Word) (s : State) : Res Unit :=
  let t := s.setReg16 .sp (s.gpr.sp - 2)
  store16 ph t.sreg.ss t.gpr.sp v t

/-- `pop16()`: the word at SS:SP, then SP goes up. -/
def pop16 (s : State) : Res Word :=
  (load16 .exec s.sreg.ss s.gpr.sp s).bind fun v t => .ok v (t.setReg16 .sp (t.gpr.sp + 2))

/-! ## Requests, refusal, inhibit -/

/-- `raise Interrupt(v, internal)` (60_exceptions.md R204). -/
def State.raise (s : State) (v : Byte) : State := { s with internalReq := some v }

/-- `refuse(reason)`: IP back at the first byte and the sticky failure, nothing else (60_exceptions.md R203). -/
def State.refuse (s : State) (reason : String) : State :=
  { s with ip := s.pfx.start, fault := some (.unimplemented reason) }

/-- `if SEG_LOAD_INHIBIT: inhibit <- true` (10_state.md R34). -/
def State.segLoaded (s : State) : State := { s with inhibit := s.inhibit || s.params.segLoadInhibit }

/-- A class A or B encoding (47_undocumented.md R183): its operation under `emulate`, refused under `refuse`. -/
def undocumented (reason : String) (body : State → Res Unit) (s : State) : Res Unit :=
  match s.params.undoc with
  | .emulate => body s
  | .refuse => .stop (s.refuse reason)

/-! ## Taking an interrupt and returning from one -/

/-- `rep_return_address()`: the first prefix byte, or the last one before the opcode (43_string.md R141). -/
def repReturnAddress (p : RepResume) (r : Rep) : Word :=
  match p with
  | .allPrefixes => r.pfx.start
  | .lastPrefixOnly => r.pfx.start + BitVec.ofNat 16 (r.pfx.count - 1)

/-- The return address an entry pushes (60_exceptions.md R212). -/
def State.returnAddress (s : State) : Word :=
  match s.rep with
  | some r => repReturnAddress s.params.repResume r
  | none => s.ip

/-- `int_entry(v)`: the interrupt entry sequence (60_exceptions.md R212). -/
def intEntry (v : Byte) (s : State) : Res Unit :=
  (push16 .entry (flagsImage s.flags) s).bind fun _ s1 =>
  (push16 .entry s1.sreg.cs s1).bind fun _ s2 =>
  (push16 .entry s.returnAddress s2).bind fun _ s3 =>
  let s4 := s3.setFlags { s3.flags with ifl := false, tf := false }
  let off : Word := BitVec.ofNat 16 (4 * v.toNat)
  (load16 .entry 0 off s4).bind fun newIp s5 =>
  (load16 .entry 0 (off + 2) s5).bind fun newCs s6 =>
  .ok () { ((s6.setIp newIp).setSeg .cs newCs).flush with rep := none, halted := false }

/-- IRET: IP, CS and the flags popped in this order, then the queue flushed (45_interrupt_instructions.md R169). -/
def intReturn (s : State) : Res Unit :=
  (pop16 s).bind fun v s1 =>
  (pop16 (s1.setIp v)).bind fun c s2 =>
  (pop16 (s2.setSeg .cs c)).bind fun f s3 => .ok () (s3.setFlags (loadFlags f)).flush

/-! ## Boundaries (60_exceptions.md R209, R210) -/

/-- What the priority order takes at a boundary, with that request removed (R210), or nothing. -/
def takeRequest (s : State) : Option (Byte × State) :=
  match s.internalReq with
  | some v => some (v, { s with internalReq := none })
  | none =>
    if s.inhibit then none
    else
      match s.nmiQ with
      | v :: q => some (v, { s with nmiQ := q })
      | [] =>
        match s.flags.ifl, s.intrQ with
        | true, v :: q => some (v, { s with intrQ := q })
        | _, _ => if s.ssLatch then some (1, { s with ssLatch := false }) else none

/-- The passes of `service_chain()`; each is one boundary and consumes one request (R210). -/
def serviceLoop : Nat → State → Res Unit
  | 0, s => .ok () s
  | n + 1, s =>
    match takeRequest s with
    | some (v, t) => (intEntry v t).bind fun _ t => serviceLoop n t
    | none => .ok () s

/-- How many requests are pending. -/
def State.pending (s : State) : Nat :=
  (bif s.internalReq.isSome then 1 else 0) + s.nmiQ.length + s.intrQ.length + (bif s.ssLatch then 1 else 0)

/-- `service_chain()` (R210): no more passes than there are pending requests, since each consumes one. -/
def serviceChain (s : State) : Res Unit :=
  (serviceLoop s.pending s).andThen fun _ t => { t with inhibit := false }

end Sys2Proof.Machine
end

