-- ==== Sys2Proof/Machine/Operands.lean ====
section
/-! DEFINITION. Operands (30_encoding.md R65 to R70): effective addresses, segments, places that are read and written at
a width, and the shared bodies of the instruction families over them. -/

namespace Sys2Proof.Machine

/-! ## Effective address and segment -/

/-- The base and index sum of R66, modulo 2^16. -/
def baseSum (b : Base) (g : Gprs) : Word :=
  match b with
  | .bxSi => g.bx + g.si
  | .bxDi => g.bx + g.di
  | .bpSi => g.bp + g.si
  | .bpDi => g.bp + g.di
  | .si => g.si
  | .di => g.di
  | .bp => g.bp
  | .bx => g.bx

/-- The effective address (R66): a byte displacement is sign-extended. -/
def effAddr (m : Mem) (s : State) : Word :=
  match m with
  | .base b => baseSum b s.gpr
  | .direct d => d
  | .disp8 b d => baseSum b s.gpr + d.signExtend 16
  | .disp16 b d => baseSum b s.gpr + d

/-- SS when BP is the base, DS otherwise (R66, R67). -/
def baseSeg : Base → SReg
  | .bpSi | .bpDi | .bp => .ss
  | .bxSi | .bxDi | .si | .di | .bx => .ds

/-- The default segment of a memory operand (R67). -/
def defaultSeg : Mem → SReg
  | .base b | .disp8 b _ | .disp16 b _ => baseSeg b
  | .direct _ => .ds

/-- The segment register of an operand whose default is `d`: the override when there is one (R67). -/
def State.segOr (s : State) (d : SReg) : Word := s.seg (s.pfx.seg.getD d)

/-- The segment of a memory operand (R67). -/
def memSeg (m : Mem) (s : State) : Word := s.segOr (defaultSeg m)

/-! ## Places -/

/-- An operand that can be read and written, located before any register is written (R68). -/
inductive Place : Nat → Type where
  | r8 (r : Reg8) : Place 8
  | r16 (r : Reg16) : Place 16
  | m8 (seg off : Word) : Place 8
  | m16 (seg off : Word) : Place 16

/-- `read(op)` (R68). -/
def Place.read {w : Nat} (p : Place w) (s : State) : Res (BitVec w) :=
  match p with
  | .r8 r => .ok (s.reg8 r) s
  | .r16 r => .ok (s.reg16 r) s
  | .m8 seg off => load8 .exec seg off s
  | .m16 seg off => load16 .exec seg off s

/-- `write(op, v)` (R68). -/
def Place.write {w : Nat} (p : Place w) (v : BitVec w) (s : State) : Res Unit :=
  match p, v with
  | .r8 r, v => .ok () (s.setReg8 r v)
  | .r16 r, v => .ok () (s.setReg16 r v)
  | .m8 seg off, v => store8 .exec seg off v s
  | .m16 seg off, v => store16 .exec seg off v s

/-- Locate `Eb` (R68: the EA is computed once). -/
def place8 (e : Rm8) (s : State) : Place 8 :=
  match e with
  | .reg r => .r8 r
  | .mem m => .m8 (memSeg m s) (effAddr m s)

/-- Locate `Ev` (R68). -/
def place16 (e : Rm16) (s : State) : Place 16 :=
  match e with
  | .reg r => .r16 r
  | .mem m => .m16 (memSeg m s) (effAddr m s)

/-- A source operand: a place or an immediate. -/
inductive Src (w : Nat) where
  | place (p : Place w)
  | imm (v : BitVec w)

def Src.read {w : Nat} (x : Src w) (s : State) : Res (BitVec w) :=
  match x with
  | .place p => p.read s
  | .imm v => .ok v s

/-! ## Moves -/

/-- `dst <- read(src)`. -/
def moveTo {w : Nat} (dst : Place w) (src : Src w) (s : State) : Res Unit :=
  (src.read s).bind fun v s => dst.write v s

/-- `t <- read(E); u <- read(G); write(E, u); G <- t` (40_data_transfer.md R92). -/
def exchange {w : Nat} (e g : Place w) (s : State) : Res Unit :=
  (e.read s).bind fun t s =>
  (g.read s).bind fun u s =>
  (e.write u s).bind fun _ s => g.write t s

/-- A far pointer: the offset word at `EA`, then the segment word at `EA + 2` (20_memory.md R50). -/
def loadFar (m : Mem) (s : State) : Res (Word × Word) :=
  let seg := memSeg m s
  let ea := effAddr m s
  (load16 .exec seg ea s).bind fun off s =>
  (load16 .exec seg (ea + 2) s).bind fun sg s => .ok (off, sg) s

/-- PUSH of a 16-bit register: SP pushes its decremented value (40_data_transfer.md R86). -/
def pushReg (r : Reg16) (s : State) : Res Unit :=
  match r with
  | .sp => push16 .exec (s.gpr.sp - 2) s
  | .ax | .cx | .dx | .bx | .bp | .si | .di => push16 .exec (s.reg16 r) s

/-- PUSH Ev: the operand is read before SP changes; the register SP is pushed as by PUSH SP (40_data_transfer.md R88). -/
def pushRm (e : Rm16) (s : State) : Res Unit :=
  match e with
  | .reg r => pushReg r s
  | .mem m => (load16 .exec (memSeg m s) (effAddr m s) s).bind fun v s => push16 .exec v s

/-- POP of a 16-bit register (40_data_transfer.md R89): SP ends as the popped value. -/
def popReg (r : Reg16) (s : State) : Res Unit :=
  (pop16 s).bind fun v s => .ok () (s.setReg16 r v)

/-- POP Ev: the operand is located first (40_data_transfer.md R91, R68). -/
def popRm (e : Rm16) (s : State) : Res Unit :=
  let p := place16 e s
  (pop16 s).bind fun v s => p.write v s

/-- A segment register loaded by MOV from `e` (40_data_transfer.md R85). -/
def movToSeg (r : SReg) (e : Rm16) (s : State) : Res Unit :=
  ((place16 e s).read s).bind fun v s => .ok () (s.setSeg r v).segLoaded

/-- CS loaded by MOV: the queue is flushed as well (47_undocumented.md R189). -/
def movToCs (e : Rm16) (s : State) : Res Unit :=
  ((place16 e s).read s).bind fun v s => .ok () (s.setSeg .cs v).segLoaded.flush

/-- A segment register loaded by POP (40_data_transfer.md R90). -/
def popSeg (r : SReg) (s : State) : Res Unit :=
  (pop16 s).bind fun v s => .ok () (s.setSeg r v).segLoaded

/-! ## Arithmetic and logic -/

/-- The flags of operation `k` written into the state, an undefined AF drawn. -/
def State.aluFlagged {w : Nat} (s : State) (k : AluOp) (a c : BitVec w) : State :=
  (s.setFlags (aluFlags k a c (s.freeBit 0) s.flags)).drew (bif k.drawsAf then 1 else 0)

/-- `if k != 7: write(dst, r)`: CMP writes no operand (41_arithmetic.md R104, R109). -/
def aluWrite {w : Nat} (k : AluOp) (dst : Place w) (r : BitVec w) (s : State) : Res Unit :=
  match k with
  | .cmp => .ok () s
  | .add | .or | .adc | .sbb | .and | .sub | .xor => dst.write r s

/-- `r <- f_k(a, c)`, the write, then the flags (41_arithmetic.md R104). -/
def aluOn {w : Nat} (k : AluOp) (dst : Place w) (src : Src w) (s : State) : Res Unit :=
  (dst.read s).bind fun a s =>
  (src.read s).bind fun c s =>
  (aluWrite k dst (aluResult k a c s.flags.cf) s).bind fun _ s => .ok () (s.aluFlagged k a c)

/-- The ten operand forms (41_arithmetic.md R104). -/
def alu (k : AluOp) (f : AluForm) (s : State) : Res Unit :=
  match f with
  | .ebGb e g => aluOn k (place8 e s) (.place (.r8 g)) s
  | .evGv e g => aluOn k (place16 e s) (.place (.r16 g)) s
  | .gbEb g e => aluOn k (.r8 g) (.place (place8 e s)) s
  | .gvEv g e => aluOn k (.r16 g) (.place (place16 e s)) s
  | .alIb i => aluOn k (.r8 .al) (.imm i) s
  | .axIv i => aluOn k (.r16 .ax) (.imm i) s
  | .ebIb e i | .ebIb82 e i => aluOn k (place8 e s) (.imm i) s
  | .evIv e i => aluOn k (place16 e s) (.imm i) s
  | .evIs e i => aluOn k (place16 e s) (.imm (i.signExtend 16)) s

/-- TEST: the flags of AND, nothing written (42_logic_shift.md R128). -/
def testOn {w : Nat} (a c : Src w) (s : State) : Res Unit :=
  (a.read s).bind fun x s =>
  (c.read s).bind fun y s => .ok () (s.aluFlagged .and x y)

/-- A read-modify-write by a pure function of the operand, with its flags: NOT, NEG, INC, DEC. -/
def rmw {w : Nat} (p : Place w) (f : BitVec w → BitVec w) (fl : BitVec w → Flags → Flags) (s : State) : Res Unit :=
  (p.read s).bind fun a s =>
  (p.write (f a) s).bind fun _ s => .ok () (s.setFlags (fl a s.flags))

/-- INC (41_arithmetic.md R110). -/
def incOn {w : Nat} (p : Place w) (s : State) : Res Unit := rmw p (fun a => a + 1) incFlags s

/-- DEC (41_arithmetic.md R111). -/
def decOn {w : Nat} (p : Place w) (s : State) : Res Unit := rmw p (fun a => a - 1) decFlags s

/-- NEG (41_arithmetic.md R112). -/
def negOn {w : Nat} (p : Place w) (s : State) : Res Unit := rmw p (fun a => 0 - a) negFlags s

/-- NOT (42_logic_shift.md R129). -/
def notOn {w : Nat} (p : Place w) (s : State) : Res Unit := rmw p (fun a => ~~~a) (fun _ f => f) s

/-- A byte or word form applied to its place. -/
def onForm (f : RmForm) (body : {w : Nat} → Place w → State → Res Unit) (s : State) : Res Unit :=
  match f with
  | .b e => body (place8 e s) s
  | .w e => body (place16 e s) s

/-- CF and OF as given; SF, ZF, AF, PF drawn (41_arithmetic.md R113, R114). -/
def State.mulFlagged (s : State) (ovf : Bool) : State :=
  (s.setFlags { s.flags with
    cf := ovf, ofl := ovf, sf := s.freeBit 0, zf := s.freeBit 1, af := s.freeBit 2, pf := s.freeBit 3 }).drew 4

/-- All six status flags drawn (41_arithmetic.md R115, R116). -/
def State.statusDrawn (s : State) : State :=
  (s.setFlags { s.flags with
    cf := s.freeBit 0, ofl := s.freeBit 1, sf := s.freeBit 2, zf := s.freeBit 3, af := s.freeBit 4,
    pf := s.freeBit 5 }).drew 6

/-! ## Shifts and rotates (42_logic_shift.md R130) -/

/-- The flags after `n` > 0 repetitions: `x` the original operand, `r` the result; CF is already written. OF is drawn unless
`n = 1`; a shift writes SF, ZF, PF and draws AF, a rotate leaves them. -/
def State.shiftFlagged {w : Nat} (s : State) (op : ShiftOp) (n : Nat) (x r : BitVec w) : State :=
  let f := { s.flags with ofl := if n = 1 then shiftOf op x r s.flags.cf else s.freeBit 0 }
  let f := if op.isShift then { setSzp r f with af := s.freeBit 1 } else f
  (s.setFlags f).drew 2

/-- A shift or rotate by `n` (R130). A count of 0 reads the operand and changes nothing. CF takes its new value in the
repetition, before the operand is written. -/
def shiftOn {w : Nat} (op : ShiftOp) (p : Place w) (n : Nat) (s : State) : Res Unit :=
  (p.read s).bind fun x s =>
    if n = 0 then .ok () s
    else
      let r := shiftN op n (x, s.flags.cf)
      (p.write r.1 (s.setFlags { s.flags with cf := r.2 })).bind fun _ s => .ok () (s.shiftFlagged op n x r.1)

/-- The four rows: count 1, or the whole of CL (R130, decision D26). -/
def shift (op : ShiftOp) (f : ShiftForm) (s : State) : Res Unit :=
  match f with
  | .eb1 e => shiftOn op (place8 e s) 1 s
  | .ev1 e => shiftOn op (place16 e s) 1 s
  | .ebCl e => shiftOn op (place8 e s) (s.reg8 .cl).toNat s
  | .evCl e => shiftOn op (place16 e s) (s.reg8 .cl).toNat s

/-! ## Ports (40_data_transfer.md R95, R96) -/

/-- The port of an IN or OUT form. -/
def portOf (f : PortForm) (s : State) : Word :=
  match f with
  | .immB p | .immW p => p.setWidth 16
  | .dxB | .dxW => s.gpr.dx

/-! ## String instructions (43_string.md R138 to R141) -/

/-- The accumulator of a byte or word string instruction and its element size. -/
inductive StrWidth where
  | byte | word
  deriving DecidableEq, Repr

def StrWidth.bits : StrWidth → Nat
  | .byte => 8
  | .word => 16

def StrWidth.acc : (n : StrWidth) → Place n.bits
  | .byte => .r8 .al
  | .word => .r16 .ax

def StrWidth.at (n : StrWidth) (seg off : Word) : Place n.bits :=
  match n with
  | .byte => .m8 seg off
  | .word => .m16 seg off

/-- `delta` (R138): the element size, negative when DF is set. -/
def StrWidth.delta (n : StrWidth) (s : State) : Word :=
  let d : Word := match n with
    | .byte => 1
    | .word => 2
  bif s.flags.df then 0 - d else d

/-- The source element `src_seg:SI` (R138). -/
def srcElem (n : StrWidth) (s : State) : Place n.bits := n.at (s.segOr .ds) s.gpr.si

/-- The destination element `ES:DI`, which no prefix changes (R138). -/
def dstElem (n : StrWidth) (s : State) : Place n.bits := n.at s.sreg.es s.gpr.di

def State.moveSi (s : State) (n : StrWidth) : State := s.setReg16 .si (s.gpr.si + n.delta s)

def State.moveDi (s : State) (n : StrWidth) : State := s.setReg16 .di (s.gpr.di + n.delta s)

/-- R142. -/
def movsElem (n : StrWidth) (s : State) : Res Unit :=
  ((srcElem n s).read s).bind fun v s =>
  ((dstElem n s).write v s).bind fun _ s => .ok () ((s.moveSi n).moveDi n)

/-- R143: the source is read before the destination. -/
def cmpsElem (n : StrWidth) (s : State) : Res Unit :=
  ((srcElem n s).read s).bind fun a s =>
  ((dstElem n s).read s).bind fun c s => .ok () (((s.aluFlagged .cmp a c).moveSi n).moveDi n)

/-- R144. -/
def scasElem (n : StrWidth) (s : State) : Res Unit :=
  ((dstElem n s).read s).bind fun c s =>
  (n.acc.read s).bind fun a s => .ok () ((s.aluFlagged .cmp a c).moveDi n)

/-- R145. -/
def lodsElem (n : StrWidth) (s : State) : Res Unit :=
  ((srcElem n s).read s).bind fun v s =>
  (n.acc.write v s).bind fun _ s => .ok () (s.moveSi n)

/-- R146. -/
def stosElem (n : StrWidth) (s : State) : Res Unit :=
  (n.acc.read s).bind fun v s =>
  ((dstElem n s).write v s).bind fun _ s => .ok () (s.moveDi n)

/-- `E`, the offset after the instruction (R140): IP in the first unit, `rep.end` while the repetition is in progress. -/
def State.afterIns (s : State) : Word :=
  match s.rep with
  | some r => r.endIp
  | none => s.ip

/-- Does the repetition end after an element (R140)? `compares` for CMPS and SCAS. -/
def repDone (compares : Bool) (k : RepKind) (s : State) : Bool :=
  s.gpr.cx == 0 || (compares && (match k with
    | .repe => !s.flags.zf
    | .repne => s.flags.zf))

/-- `string_unit(ins, S, E)` (R140). -/
def stringUnit (ins : Instr) (compares : Bool) (element : State → Res Unit) (s : State) : Res Unit :=
  let e := s.afterIns
  match s.pfx.rep with
  | none => (element s).andThen fun _ s => s.setIp e
  | some k =>
    if s.gpr.cx = 0 then .ok () ({ s with rep := none }.setIp e)
    else
      (element s).andThen fun _ t =>
        let u := t.setReg16 .cx (t.gpr.cx - 1)
        if repDone compares k u then { u with rep := none }.setIp e
        else { u with rep := some ⟨ins, u.pfx, e⟩ }.setIp u.pfx.start

end Sys2Proof.Machine
end

