-- ==== Sys2Proof/Machine/Arithmetic.lean ====
section
/-! DEFINITION. The meanings of the arithmetic instructions (41_arithmetic.md R103 to R124). -/

namespace Sys2Proof.Machine

/-- AL, CF and AF after DAA or DAS, SF, ZF, PF from AL, OF drawn; under DAA_NONBCD = any, an input that is not `bcd` has
AL, CF and AF drawn too (R117, R118). -/
def State.decimalAdjusted (s : State) (result : Byte × Bool × Bool) (bcd : Bool) : State :=
  let r :=
    if s.params.daaNonBcd = .any ∧ bcd = false then (Config.freeByte s.draws, s.freeBit 1, s.freeBit 2) else result
  ((s.setReg8 .al r.1).setFlags
    { setSzp r.1 s.flags with cf := r.2.1, af := r.2.2, ofl := s.freeBit 0 }).drew 3

/-- AL, AH, AF and CF after AAA or AAS; OF, SF, ZF, PF drawn (R119, R120). -/
def State.asciiAdjusted (s : State) (r : Byte × Byte × Bool) : State :=
  (((s.setReg8 .al r.1).setReg8 .ah r.2.1).setFlags
    { s.flags with
      af := r.2.2, cf := r.2.2, ofl := s.freeBit 0, sf := s.freeBit 1, zf := s.freeBit 2, pf := s.freeBit 3 }).drew 4

/-- AH and AL after AAM or AAD, SF, ZF, PF from AL, OF, AF, CF drawn (R121, R122). -/
def State.radixAdjusted (s : State) (ah al : Byte) : State :=
  (((s.setReg8 .al al).setReg8 .ah ah).setFlags
    { setSzp al s.flags with ofl := s.freeBit 0, af := s.freeBit 1, cf := s.freeBit 2 }).drew 3

/-- ADD, the forms of R104 (R105). -/
def execAdd (f : AluForm) (s : State) : Out :=
  (alu .add f s).out

/-- ADC, the forms of R104 (R106). -/
def execAdc (f : AluForm) (s : State) : Out :=
  (alu .adc f s).out

/-- SUB, the forms of R104 (R107). -/
def execSub (f : AluForm) (s : State) : Out :=
  (alu .sub f s).out

/-- SBB, the forms of R104 (R108). -/
def execSbb (f : AluForm) (s : State) : Out :=
  (alu .sbb f s).out

/-- CMP, the forms of R104 (R109). -/
def execCmp (f : AluForm) (s : State) : Out :=
  (alu .cmp f s).out

/-- INC AX, 40h (R110). -/
def execIncAx (s : State) : Out :=
  (incOn (.r16 .ax) s).out

/-- INC CX, 41h (R110). -/
def execIncCx (s : State) : Out :=
  (incOn (.r16 .cx) s).out

/-- INC DX, 42h (R110). -/
def execIncDx (s : State) : Out :=
  (incOn (.r16 .dx) s).out

/-- INC BX, 43h (R110). -/
def execIncBx (s : State) : Out :=
  (incOn (.r16 .bx) s).out

/-- INC SP, 44h (R110). -/
def execIncSp (s : State) : Out :=
  (incOn (.r16 .sp) s).out

/-- INC BP, 45h (R110). -/
def execIncBp (s : State) : Out :=
  (incOn (.r16 .bp) s).out

/-- INC SI, 46h (R110). -/
def execIncSi (s : State) : Out :=
  (incOn (.r16 .si) s).out

/-- INC DI, 47h (R110). -/
def execIncDi (s : State) : Out :=
  (incOn (.r16 .di) s).out

/-- INC Eb, FEh /0 (R110). -/
def execIncEb (e : Rm8) (s : State) : Out :=
  (incOn (place8 e s) s).out

/-- INC Ev, FFh /0 (R110). -/
def execIncEv (e : Rm16) (s : State) : Out :=
  (incOn (place16 e s) s).out

/-- DEC AX, 48h (R111). -/
def execDecAx (s : State) : Out :=
  (decOn (.r16 .ax) s).out

/-- DEC CX, 49h (R111). -/
def execDecCx (s : State) : Out :=
  (decOn (.r16 .cx) s).out

/-- DEC DX, 4Ah (R111). -/
def execDecDx (s : State) : Out :=
  (decOn (.r16 .dx) s).out

/-- DEC BX, 4Bh (R111). -/
def execDecBx (s : State) : Out :=
  (decOn (.r16 .bx) s).out

/-- DEC SP, 4Ch (R111). -/
def execDecSp (s : State) : Out :=
  (decOn (.r16 .sp) s).out

/-- DEC BP, 4Dh (R111). -/
def execDecBp (s : State) : Out :=
  (decOn (.r16 .bp) s).out

/-- DEC SI, 4Eh (R111). -/
def execDecSi (s : State) : Out :=
  (decOn (.r16 .si) s).out

/-- DEC DI, 4Fh (R111). -/
def execDecDi (s : State) : Out :=
  (decOn (.r16 .di) s).out

/-- DEC Eb, FEh /1 (R111). -/
def execDecEb (e : Rm8) (s : State) : Out :=
  (decOn (place8 e s) s).out

/-- DEC Ev, FFh /1 (R111). -/
def execDecEv (e : Rm16) (s : State) : Out :=
  (decOn (place16 e s) s).out

/-- NEG, F6h /3 and F7h /3 (R112). -/
def execNeg (f : RmForm) (s : State) : Out :=
  (onForm f negOn s).out

/-- MUL, F6h /4 and F7h /4 (R113). -/
def execMul (f : RmForm) (s : State) : Out :=
  match f with
  | .b e => (((place8 e s).read s).andThen fun v s =>
      let p : Word := BitVec.ofNat 16 ((s.reg8 .al).toNat * v.toNat)
      (s.setReg16 .ax p).mulFlagged (highByte p != 0)).out
  | .w e => (((place16 e s).read s).andThen fun v s =>
      let p := BitVec.ofNat 32 (s.gpr.ax.toNat * v.toNat)
      ((s.setReg16 .dx (p.extractLsb' 16 16)).setReg16 .ax (p.extractLsb' 0 16)).mulFlagged
        (p.extractLsb' 16 16 != 0)).out

/-- IMUL, F6h /5 and F7h /5 (R114). -/
def execImul (f : RmForm) (s : State) : Out :=
  match f with
  | .b e => (((place8 e s).read s).andThen fun v s =>
      let p : Word := BitVec.ofInt 16 ((s.reg8 .al).toInt * v.toInt)
      (s.setReg16 .ax p).mulFlagged (p != (lowByte p).signExtend 16)).out
  | .w e => (((place16 e s).read s).andThen fun v s =>
      let p := BitVec.ofInt 32 (s.gpr.ax.toInt * v.toInt)
      ((s.setReg16 .dx (p.extractLsb' 16 16)).setReg16 .ax (p.extractLsb' 0 16)).mulFlagged
        (p != (p.extractLsb' 0 16).signExtend 32)).out

/-- DIV, F6h /6 and F7h /6 (R115). -/
def execDiv (f : RmForm) (s : State) : Out :=
  match f with
  | .b e => (((place8 e s).read s).andThen fun v s =>
      match divResult 8 s.gpr.ax.toNat v.toNat with
      | some (q, r) => ((s.setReg8 .al q).setReg8 .ah r).statusDrawn
      | none => s.statusDrawn.raise 0).out
  | .w e => (((place16 e s).read s).andThen fun v s =>
      match divResult 16 (s.gpr.dx ++ s.gpr.ax).toNat v.toNat with
      | some (q, r) => ((s.setReg16 .ax q).setReg16 .dx r).statusDrawn
      | none => s.statusDrawn.raise 0).out

/-- IDIV, F6h /7 and F7h /7 (R116). -/
def execIdiv (f : RmForm) (s : State) : Out :=
  match f with
  | .b e => (((place8 e s).read s).andThen fun v s =>
      match idivResult 8 s.gpr.ax.toInt v.toInt with
      | some (q, r) => ((s.setReg8 .al q).setReg8 .ah r).statusDrawn
      | none => s.statusDrawn.raise 0).out
  | .w e => (((place16 e s).read s).andThen fun v s =>
      match idivResult 16 (s.gpr.dx ++ s.gpr.ax).toInt v.toInt with
      | some (q, r) => ((s.setReg16 .ax q).setReg16 .dx r).statusDrawn
      | none => s.statusDrawn.raise 0).out

/-- DAA, 27h (R117). -/
def execDaa (s : State) : Out :=
  .next (s.decimalAdjusted (daaResult (s.reg8 .al) s.flags.af s.flags.cf) (bcdSum (s.reg8 .al) s.flags.af s.flags.cf))

/-- DAS, 2Fh (R118). -/
def execDas (s : State) : Out :=
  .next (s.decimalAdjusted (dasResult (s.reg8 .al) s.flags.af s.flags.cf) (bcdDiff (s.reg8 .al) s.flags.af s.flags.cf))

/-- AAA, 37h (R119). -/
def execAaa (s : State) : Out :=
  .next (s.asciiAdjusted (aaaResult (s.reg8 .al) (s.reg8 .ah) s.flags.af))

/-- AAS, 3Fh (R120). -/
def execAas (s : State) : Out :=
  .next (s.asciiAdjusted (aasResult (s.reg8 .al) (s.reg8 .ah) s.flags.af))

/-- AAM, D4h Ib (R121). -/
def execAam (b : Byte) (s : State) : Out :=
  if b = 0 then .next (s.statusDrawn.raise 0)
  else
    .next (s.radixAdjusted (BitVec.ofNat 8 ((s.reg8 .al).toNat / b.toNat)) (BitVec.ofNat 8 ((s.reg8 .al).toNat % b.toNat)))

/-- AAD, D5h Ib (R122). -/
def execAad (b : Byte) (s : State) : Out :=
  .next (s.radixAdjusted 0 (BitVec.ofNat 8 ((s.reg8 .ah).toNat * b.toNat + (s.reg8 .al).toNat)))

/-- CBW, 98h (R123). -/
def execCbw (s : State) : Out :=
  .next (s.setReg8 .ah (if (s.reg8 .al).getLsbD 7 then 0xFF else 0x00))

/-- CWD, 99h (R124). -/
def execCwd (s : State) : Out :=
  .next (s.setReg16 .dx (if s.gpr.ax.getLsbD 15 then 0xFFFF else 0x0000))

end Sys2Proof.Machine
end

