-- ==== Sys2Proof/Machine/Control.lean ====
section
/-! DEFINITION. The meanings of the control transfer instructions (44_control_transfer.md R147 to R165). `E`, the offset after the instruction,
is `s.ip`. -/

namespace Sys2Proof.Machine

/-- `if taken: IP <- trunc_16(E + sext_16(rel8)); flush()` (R148). -/
def State.branch (s : State) (taken : Bool) (rel : Byte) : State :=
  if taken then s.jumpTo (s.ip + rel.signExtend 16) else s

/-- `CX <- trunc_16(CX - 1)` (R149). -/
def State.countDown (s : State) : State := s.setReg16 .cx (s.gpr.cx - 1)

/-- `IP <- off; CS <- seg; flush()` (R155). -/
def State.jumpFar (s : State) (off seg : Word) : State := ((s.setIp off).setSeg .cs seg).flush

/-- `push16(CS); push16(E); CS <- seg; IP <- off; flush()` (R159). -/
def callFarTo (off seg : Word) (s : State) : Res Unit :=
  (push16 .exec s.sreg.cs s).bind fun _ s => (push16 .exec s.ip s).andThen fun _ s => s.jumpFar off seg

/-- `IP <- pop16(); SP <- trunc_16(SP + n); flush()` (R163; R162 is `n = 0`). -/
def retNear (n : Word) (s : State) : Res Unit :=
  (pop16 s).andThen fun v s => ((s.setIp v).setReg16 .sp (s.gpr.sp + n)).flush

/-- `IP <- pop16(); CS <- pop16(); SP <- trunc_16(SP + n); flush()` (R165; R164 is `n = 0`). -/
def retFar (n : Word) (s : State) : Res Unit :=
  (pop16 s).bind fun v s =>
  (pop16 (s.setIp v)).andThen fun c s => ((s.setSeg .cs c).setReg16 .sp (s.gpr.sp + n)).flush

/-- JO rel8, 70h (R148). -/
def execJo (rel : Byte) (s : State) : Out :=
  .next (s.branch (Cond.o.holds s.flags) rel)

/-- JNO rel8, 71h (R148). -/
def execJno (rel : Byte) (s : State) : Out :=
  .next (s.branch (Cond.no.holds s.flags) rel)

/-- JB rel8, 72h (R148). -/
def execJb (rel : Byte) (s : State) : Out :=
  .next (s.branch (Cond.b.holds s.flags) rel)

/-- JAE rel8, 73h (R148). -/
def execJae (rel : Byte) (s : State) : Out :=
  .next (s.branch (Cond.ae.holds s.flags) rel)

/-- JE rel8, 74h (R148). -/
def execJe (rel : Byte) (s : State) : Out :=
  .next (s.branch (Cond.e.holds s.flags) rel)

/-- JNE rel8, 75h (R148). -/
def execJne (rel : Byte) (s : State) : Out :=
  .next (s.branch (Cond.ne.holds s.flags) rel)

/-- JBE rel8, 76h (R148). -/
def execJbe (rel : Byte) (s : State) : Out :=
  .next (s.branch (Cond.be.holds s.flags) rel)

/-- JA rel8, 77h (R148). -/
def execJa (rel : Byte) (s : State) : Out :=
  .next (s.branch (Cond.a.holds s.flags) rel)

/-- JS rel8, 78h (R148). -/
def execJs (rel : Byte) (s : State) : Out :=
  .next (s.branch (Cond.s.holds s.flags) rel)

/-- JNS rel8, 79h (R148). -/
def execJns (rel : Byte) (s : State) : Out :=
  .next (s.branch (Cond.ns.holds s.flags) rel)

/-- JP rel8, 7Ah (R148). -/
def execJp (rel : Byte) (s : State) : Out :=
  .next (s.branch (Cond.p.holds s.flags) rel)

/-- JNP rel8, 7Bh (R148). -/
def execJnp (rel : Byte) (s : State) : Out :=
  .next (s.branch (Cond.np.holds s.flags) rel)

/-- JL rel8, 7Ch (R148). -/
def execJl (rel : Byte) (s : State) : Out :=
  .next (s.branch (Cond.l.holds s.flags) rel)

/-- JGE rel8, 7Dh (R148). -/
def execJge (rel : Byte) (s : State) : Out :=
  .next (s.branch (Cond.ge.holds s.flags) rel)

/-- JLE rel8, 7Eh (R148). -/
def execJle (rel : Byte) (s : State) : Out :=
  .next (s.branch (Cond.le.holds s.flags) rel)

/-- JG rel8, 7Fh (R148). -/
def execJg (rel : Byte) (s : State) : Out :=
  .next (s.branch (Cond.g.holds s.flags) rel)

/-- LOOPNE rel8, E0h (R151). -/
def execLoopne (rel : Byte) (s : State) : Out :=
  .next (s.countDown.branch (s.countDown.gpr.cx != 0 && !s.flags.zf) rel)

/-- LOOPE rel8, E1h (R150). -/
def execLoope (rel : Byte) (s : State) : Out :=
  .next (s.countDown.branch (s.countDown.gpr.cx != 0 && s.flags.zf) rel)

/-- LOOP rel8, E2h (R149). -/
def execLoop (rel : Byte) (s : State) : Out :=
  .next (s.countDown.branch (s.countDown.gpr.cx != 0) rel)

/-- JCXZ rel8, E3h (R152). -/
def execJcxz (rel : Byte) (s : State) : Out :=
  .next (s.branch (s.gpr.cx == 0) rel)

/-- JMP rel8, EBh (R153). -/
def execJmpShort (rel : Byte) (s : State) : Out :=
  .next (s.branch true rel)

/-- JMP rel16, E9h (R154). -/
def execJmp (rel : Word) (s : State) : Out :=
  .next (s.jumpTo (s.ip + rel))

/-- JMP ptr16:16, EAh (R155). -/
def execJmpFar (off : Word) (seg : Word) (s : State) : Out :=
  .next (s.jumpFar off seg)

/-- JMP Ev, FFh /4 (R156). -/
def execJmpEv (e : Rm16) (s : State) : Out :=
  (((place16 e s).read s).andThen fun v s => s.jumpTo v).out

/-- JMP far Mp, FFh /5 with mod != 11 (R157). -/
def execJmpFarMp (m : Mem) (s : State) : Out :=
  ((loadFar m s).andThen fun p s => s.jumpFar p.1 p.2).out

/-- CALL rel16, E8h (R158). -/
def execCall (rel : Word) (s : State) : Out :=
  ((push16 .exec s.ip s).andThen fun _ s => s.jumpTo (s.ip + rel)).out

/-- CALL ptr16:16, 9Ah (R159). -/
def execCallFar (off : Word) (seg : Word) (s : State) : Out :=
  (callFarTo off seg s).out

/-- CALL Ev, FFh /2 (R160). -/
def execCallEv (e : Rm16) (s : State) : Out :=
  (((place16 e s).read s).bind fun t s => (push16 .exec s.ip s).andThen fun _ s => s.jumpTo t).out

/-- CALL far Mp, FFh /3 with mod != 11 (R161). -/
def execCallFarMp (m : Mem) (s : State) : Out :=
  ((loadFar m s).bind fun p s => callFarTo p.1 p.2 s).out

/-- RET, C3h (R162). -/
def execRet (s : State) : Out :=
  (retNear 0 s).out

/-- RET Iw, C2h (R163). -/
def execRetIw (n : Word) (s : State) : Out :=
  (retNear n s).out

/-- RETF, CBh (R164). -/
def execRetf (s : State) : Out :=
  (retFar 0 s).out

/-- RETF Iw, CAh (R165). -/
def execRetfIw (n : Word) (s : State) : Out :=
  (retFar n s).out

end Sys2Proof.Machine
end

