-- ==== Sys2Proof/Machine/DataTransfer.lean ====
section
/-! DEFINITION. The meanings of the data transfer instructions (40_data_transfer.md R79 to R102). -/

namespace Sys2Proof.Machine

/-- MOV between register and register/memory, and accumulator and direct address (R80, R83). -/
def execMov (f : MovForm) (s : State) : Out :=
  match f with
  | .ebGb e g => (moveTo (place8 e s) (.place (.r8 g)) s).out
  | .evGv e g => (moveTo (place16 e s) (.place (.r16 g)) s).out
  | .gbEb g e => (moveTo (.r8 g) (.place (place8 e s)) s).out
  | .gvEv g e => (moveTo (.r16 g) (.place (place16 e s)) s).out
  | .alOb off => (moveTo (.r8 .al) (.place (.m8 (s.segOr .ds) off)) s).out
  | .axOv off => (moveTo (.r16 .ax) (.place (.m16 (s.segOr .ds) off)) s).out
  | .obAl off => (moveTo (.m8 (s.segOr .ds) off) (.place (.r8 .al)) s).out
  | .ovAx off => (moveTo (.m16 (s.segOr .ds) off) (.place (.r16 .ax)) s).out

/-- MOV byte immediate, C6h /0 (R81). -/
def execMovEbIb (e : Rm8) (i : Byte) (s : State) : Out :=
  (moveTo (place8 e s) (.imm i) s).out

/-- MOV word immediate, C7h /0 (R81). -/
def execMovEvIv (e : Rm16) (i : Word) (s : State) : Out :=
  (moveTo (place16 e s) (.imm i) s).out

/-- MOV AL,Ib, B0h (R82). -/
def execMovAlIb (i : Byte) (s : State) : Out :=
  (moveTo (.r8 .al) (.imm i) s).out

/-- MOV CL,Ib, B1h (R82). -/
def execMovClIb (i : Byte) (s : State) : Out :=
  (moveTo (.r8 .cl) (.imm i) s).out

/-- MOV DL,Ib, B2h (R82). -/
def execMovDlIb (i : Byte) (s : State) : Out :=
  (moveTo (.r8 .dl) (.imm i) s).out

/-- MOV BL,Ib, B3h (R82). -/
def execMovBlIb (i : Byte) (s : State) : Out :=
  (moveTo (.r8 .bl) (.imm i) s).out

/-- MOV AH,Ib, B4h (R82). -/
def execMovAhIb (i : Byte) (s : State) : Out :=
  (moveTo (.r8 .ah) (.imm i) s).out

/-- MOV CH,Ib, B5h (R82). -/
def execMovChIb (i : Byte) (s : State) : Out :=
  (moveTo (.r8 .ch) (.imm i) s).out

/-- MOV DH,Ib, B6h (R82). -/
def execMovDhIb (i : Byte) (s : State) : Out :=
  (moveTo (.r8 .dh) (.imm i) s).out

/-- MOV BH,Ib, B7h (R82). -/
def execMovBhIb (i : Byte) (s : State) : Out :=
  (moveTo (.r8 .bh) (.imm i) s).out

/-- MOV AX,Iv, B8h (R82). -/
def execMovAxIv (i : Word) (s : State) : Out :=
  (moveTo (.r16 .ax) (.imm i) s).out

/-- MOV CX,Iv, B9h (R82). -/
def execMovCxIv (i : Word) (s : State) : Out :=
  (moveTo (.r16 .cx) (.imm i) s).out

/-- MOV DX,Iv, BAh (R82). -/
def execMovDxIv (i : Word) (s : State) : Out :=
  (moveTo (.r16 .dx) (.imm i) s).out

/-- MOV BX,Iv, BBh (R82). -/
def execMovBxIv (i : Word) (s : State) : Out :=
  (moveTo (.r16 .bx) (.imm i) s).out

/-- MOV SP,Iv, BCh (R82). -/
def execMovSpIv (i : Word) (s : State) : Out :=
  (moveTo (.r16 .sp) (.imm i) s).out

/-- MOV BP,Iv, BDh (R82). -/
def execMovBpIv (i : Word) (s : State) : Out :=
  (moveTo (.r16 .bp) (.imm i) s).out

/-- MOV SI,Iv, BEh (R82). -/
def execMovSiIv (i : Word) (s : State) : Out :=
  (moveTo (.r16 .si) (.imm i) s).out

/-- MOV DI,Iv, BFh (R82). -/
def execMovDiIv (i : Word) (s : State) : Out :=
  (moveTo (.r16 .di) (.imm i) s).out

/-- MOV Ew,Sw, 8Ch /0../3 (R84). -/
def execMovEwSw (e : Rm16) (r : SReg) (s : State) : Out :=
  ((place16 e s).write (s.seg r) s).out

/-- MOV ES,Ew, 8Eh /0 (R85). -/
def execMovEsEw (e : Rm16) (s : State) : Out :=
  (movToSeg .es e s).out

/-- MOV SS,Ew, 8Eh /2 (R85). -/
def execMovSsEw (e : Rm16) (s : State) : Out :=
  (movToSeg .ss e s).out

/-- MOV DS,Ew, 8Eh /3 (R85). -/
def execMovDsEw (e : Rm16) (s : State) : Out :=
  (movToSeg .ds e s).out

/-- PUSH AX, 50h (R86). -/
def execPushAx (s : State) : Out :=
  (pushReg .ax s).out

/-- PUSH CX, 51h (R86). -/
def execPushCx (s : State) : Out :=
  (pushReg .cx s).out

/-- PUSH DX, 52h (R86). -/
def execPushDx (s : State) : Out :=
  (pushReg .dx s).out

/-- PUSH BX, 53h (R86). -/
def execPushBx (s : State) : Out :=
  (pushReg .bx s).out

/-- PUSH SP, 54h (R86). -/
def execPushSp (s : State) : Out :=
  (pushReg .sp s).out

/-- PUSH BP, 55h (R86). -/
def execPushBp (s : State) : Out :=
  (pushReg .bp s).out

/-- PUSH SI, 56h (R86). -/
def execPushSi (s : State) : Out :=
  (pushReg .si s).out

/-- PUSH DI, 57h (R86). -/
def execPushDi (s : State) : Out :=
  (pushReg .di s).out

/-- PUSH ES, 06h (R87). -/
def execPushEs (s : State) : Out :=
  (push16 .exec s.sreg.es s).out

/-- PUSH CS, 0Eh (R87). -/
def execPushCs (s : State) : Out :=
  (push16 .exec s.sreg.cs s).out

/-- PUSH SS, 16h (R87). -/
def execPushSs (s : State) : Out :=
  (push16 .exec s.sreg.ss s).out

/-- PUSH DS, 1Eh (R87). -/
def execPushDs (s : State) : Out :=
  (push16 .exec s.sreg.ds s).out

/-- PUSH Ev, FFh /6 (R88). -/
def execPushEv (e : Rm16) (s : State) : Out :=
  (pushRm e s).out

/-- POP AX, 58h (R89). -/
def execPopAx (s : State) : Out :=
  (popReg .ax s).out

/-- POP CX, 59h (R89). -/
def execPopCx (s : State) : Out :=
  (popReg .cx s).out

/-- POP DX, 5Ah (R89). -/
def execPopDx (s : State) : Out :=
  (popReg .dx s).out

/-- POP BX, 5Bh (R89). -/
def execPopBx (s : State) : Out :=
  (popReg .bx s).out

/-- POP SP, 5Ch (R89). -/
def execPopSp (s : State) : Out :=
  (popReg .sp s).out

/-- POP BP, 5Dh (R89). -/
def execPopBp (s : State) : Out :=
  (popReg .bp s).out

/-- POP SI, 5Eh (R89). -/
def execPopSi (s : State) : Out :=
  (popReg .si s).out

/-- POP DI, 5Fh (R89). -/
def execPopDi (s : State) : Out :=
  (popReg .di s).out

/-- POP ES, 07h (R90). -/
def execPopEs (s : State) : Out :=
  (popSeg .es s).out

/-- POP SS, 17h (R90). -/
def execPopSs (s : State) : Out :=
  (popSeg .ss s).out

/-- POP DS, 1Fh (R90). -/
def execPopDs (s : State) : Out :=
  (popSeg .ds s).out

/-- POP Ev, 8Fh /0 (R91). -/
def execPopEv (e : Rm16) (s : State) : Out :=
  (popRm e s).out

/-- XCHG register/memory with register, 86h and 87h (R92). -/
def execXchg (f : XchgForm) (s : State) : Out :=
  match f with
  | .b e g => (exchange (place8 e s) (.r8 g) s).out
  | .w e g => (exchange (place16 e s) (.r16 g) s).out

/-- XCHG AX,CX, 91h (R93). -/
def execXchgAxCx (s : State) : Out :=
  (exchange (.r16 .ax) (.r16 .cx) s).out

/-- XCHG AX,DX, 92h (R93). -/
def execXchgAxDx (s : State) : Out :=
  (exchange (.r16 .ax) (.r16 .dx) s).out

/-- XCHG AX,BX, 93h (R93). -/
def execXchgAxBx (s : State) : Out :=
  (exchange (.r16 .ax) (.r16 .bx) s).out

/-- XCHG AX,SP, 94h (R93). -/
def execXchgAxSp (s : State) : Out :=
  (exchange (.r16 .ax) (.r16 .sp) s).out

/-- XCHG AX,BP, 95h (R93). -/
def execXchgAxBp (s : State) : Out :=
  (exchange (.r16 .ax) (.r16 .bp) s).out

/-- XCHG AX,SI, 96h (R93). -/
def execXchgAxSi (s : State) : Out :=
  (exchange (.r16 .ax) (.r16 .si) s).out

/-- XCHG AX,DI, 97h (R93). -/
def execXchgAxDi (s : State) : Out :=
  (exchange (.r16 .ax) (.r16 .di) s).out

/-- XLAT, D7h (R94). -/
def execXlat (s : State) : Out :=
  (moveTo (.r8 .al) (.place (.m8 (s.segOr .ds) (s.gpr.bx + (s.reg8 .al).setWidth 16))) s).out

/-- IN, E4h E5h ECh EDh (R95). -/
def execInp (f : PortForm) (s : State) : Out :=
  match f with
  | .immB _ | .dxB => ((ioRead8 (portOf f s) s).andThen fun v s => s.setReg8 .al v).out
  | .immW _ | .dxW => ((ioRead16 (portOf f s) s).andThen fun v s => s.setReg16 .ax v).out

/-- OUT, E6h E7h EEh EFh (R96). -/
def execOutp (f : PortForm) (s : State) : Out :=
  match f with
  | .immB _ | .dxB => (ioWrite8 (portOf f s) (s.reg8 .al) s).out
  | .immW _ | .dxW => (ioWrite16 (portOf f s) s.gpr.ax s).out

/-- LEA Gv,M, 8Dh with mod != 11 (R97). -/
def execLea (g : Reg16) (m : Mem) (s : State) : Out :=
  .next (s.setReg16 g (effAddr m s))

/-- LES Gv,Mp, C4h with mod != 11 (R98). -/
def execLes (g : Reg16) (m : Mem) (s : State) : Out :=
  ((loadFar m s).andThen fun p s => (s.setReg16 g p.1).setSeg .es p.2).out

/-- LDS Gv,Mp, C5h with mod != 11 (R98). -/
def execLds (g : Reg16) (m : Mem) (s : State) : Out :=
  ((loadFar m s).andThen fun p s => (s.setReg16 g p.1).setSeg .ds p.2).out

/-- LAHF, 9Fh (R99). -/
def execLahf (s : State) : Out :=
  .next (s.setReg8 .ah (lowByte (flagsImage s.flags)))

/-- SAHF, 9Eh (R100). -/
def execSahf (s : State) : Out :=
  .next (s.setFlags (sahfFlags (s.reg8 .ah) s.flags))

/-- PUSHF, 9Ch (R101). -/
def execPushf (s : State) : Out :=
  (push16 .exec (flagsImage s.flags) s).out

/-- POPF, 9Dh (R102). -/
def execPopf (s : State) : Out :=
  ((pop16 s).andThen fun v s => s.setFlags (loadFlags v)).out

end Sys2Proof.Machine
end

