-- ==== Sys2Proof/Machine/Interrupts.lean ====
section
/-! DEFINITION. The meanings of the software interrupt instructions (45_interrupt_instructions.md R166 to R169). They raise an internal
request, which the boundary that ends the instruction services with the entry of 60_exceptions.md R212. -/

namespace Sys2Proof.Machine

/-- INT n, CDh (R166). -/
def execInt (n : Byte) (s : State) : Out :=
  .next (s.raise n)

/-- INT3, CCh (R167). -/
def execInt3 (s : State) : Out :=
  .next (s.raise 3)

/-- INTO, CEh (R168). -/
def execInto (s : State) : Out :=
  .next (if s.flags.ofl then s.raise 4 else s)

/-- IRET, CFh (R169). -/
def execIret (s : State) : Out :=
  (intReturn s).out

end Sys2Proof.Machine
end

