-- ==== Sys2Proof/Machine/Logic.lean ====
section
/-! DEFINITION. The meanings of the logic, shift and rotate instructions (42_logic_shift.md R125 to R137). -/

namespace Sys2Proof.Machine

/-- AND, the forms of R104 but for 82h and 83h (R125). -/
def execAnd (f : AluForm) (s : State) : Out :=
  (alu .and f s).out

/-- OR, the forms of R104 but for 82h and 83h (R126). -/
def execOr (f : AluForm) (s : State) : Out :=
  (alu .or f s).out

/-- XOR, the forms of R104 but for 82h and 83h (R127). -/
def execXor (f : AluForm) (s : State) : Out :=
  (alu .xor f s).out

/-- TEST, 84h 85h A8h A9h F6h /0 F7h /0 (R128). -/
def execTest (f : TestForm) (s : State) : Out :=
  match f with
  | .ebGb e g => (testOn (.place (place8 e s)) (.place (.r8 g)) s).out
  | .evGv e g => (testOn (.place (place16 e s)) (.place (.r16 g)) s).out
  | .alIb i => (testOn (.place (.r8 .al)) (.imm i) s).out
  | .axIv i => (testOn (.place (.r16 .ax)) (.imm i) s).out
  | .ebIb e i => (testOn (.place (place8 e s)) (.imm i) s).out
  | .evIv e i => (testOn (.place (place16 e s)) (.imm i) s).out

/-- NOT, F6h /2 and F7h /2 (R129). -/
def execNot (f : RmForm) (s : State) : Out :=
  (onForm f notOn s).out

/-- ROL, D0h..D3h /0 (R131). -/
def execRol (f : ShiftForm) (s : State) : Out :=
  (shift .rol f s).out

/-- ROR, D0h..D3h /1 (R132). -/
def execRor (f : ShiftForm) (s : State) : Out :=
  (shift .ror f s).out

/-- RCL, D0h..D3h /2 (R133). -/
def execRcl (f : ShiftForm) (s : State) : Out :=
  (shift .rcl f s).out

/-- RCR, D0h..D3h /3 (R134). -/
def execRcr (f : ShiftForm) (s : State) : Out :=
  (shift .rcr f s).out

/-- SHL, D0h..D3h /4 (R135). -/
def execShl (f : ShiftForm) (s : State) : Out :=
  (shift .shl f s).out

/-- SHR, D0h..D3h /5 (R136). -/
def execShr (f : ShiftForm) (s : State) : Out :=
  (shift .shr f s).out

/-- SAR, D0h..D3h /7 (R137). -/
def execSar (f : ShiftForm) (s : State) : Out :=
  (shift .sar f s).out

end Sys2Proof.Machine
end

