-- ==== Sys2Proof/Machine/Prefixes.lean ====
section
/-! DEFINITION. The meanings of the prefix bytes (30_encoding.md R63, R71). Each is decoded before the instruction it stands in front of and
records itself in `State.pfx`; the instruction reads it there. Several overrides: the last wins, since each overwrites. -/

namespace Sys2Proof.Machine

/-- One more prefix byte, and what the prefixes say now. -/
def State.withPrefix (s : State) (p : Prefixes) : State := { s with pfx := { p with count := s.pfx.count + 1 } }

/-- ES: segment-override prefix (R181). -/
def execSegEs (s : State) : Out :=
  .next (s.withPrefix { s.pfx with seg := some .es })

/-- CS: segment-override prefix (R181). -/
def execSegCs (s : State) : Out :=
  .next (s.withPrefix { s.pfx with seg := some .cs })

/-- SS: segment-override prefix (R181). -/
def execSegSs (s : State) : Out :=
  .next (s.withPrefix { s.pfx with seg := some .ss })

/-- DS: segment-override prefix (R181). -/
def execSegDs (s : State) : Out :=
  .next (s.withPrefix { s.pfx with seg := some .ds })

/-- LOCK prefix, F0h (R180). -/
def execLock (s : State) : Out :=
  .next (s.withPrefix { s.pfx with lock := true })

/-- F1h, the undocumented LOCK prefix (R184). -/
def execLockF1 (s : State) : Out :=
  (undocumented "F1" (fun s => .ok () (s.withPrefix { s.pfx with lock := true, f1 := true })) s).out

/-- REPNE / REPNZ prefix, F2h (R139). -/
def execRepne (s : State) : Out :=
  .next (s.withPrefix { s.pfx with rep := some .repne })

/-- REP / REPE / REPZ prefix, F3h (R139). -/
def execRep (s : State) : Out :=
  .next (s.withPrefix { s.pfx with rep := some .repe })

end Sys2Proof.Machine
end

