-- ==== Sys2Proof/Machine/Processor.lean ====
section
/-! DEFINITION. The meanings of the processor control instructions (46_processor_control.md R170 to R182). -/

namespace Sys2Proof.Machine

/-- CLC, F8h (R170). -/
def execClc (s : State) : Out :=
  .next (s.setFlags { s.flags with cf := false })

/-- STC, F9h (R171). -/
def execStc (s : State) : Out :=
  .next (s.setFlags { s.flags with cf := true })

/-- CMC, F5h (R172). -/
def execCmc (s : State) : Out :=
  .next (s.setFlags { s.flags with cf := !s.flags.cf })

/-- CLD, FCh (R173). -/
def execCld (s : State) : Out :=
  .next (s.setFlags { s.flags with df := false })

/-- STD, FDh (R174). -/
def execStd (s : State) : Out :=
  .next (s.setFlags { s.flags with df := true })

/-- CLI, FAh (R175). -/
def execCli (s : State) : Out :=
  .next (s.setFlags { s.flags with ifl := false })

/-- STI, FBh (R176). -/
def execSti (s : State) : Out :=
  .next (s.setFlags { s.flags with ifl := true })

/-- HLT, F4h (R177). -/
def execHlt (s : State) : Out :=
  .next { s with halted := true }

/-- WAIT, 9Bh (R178). -/
def execWait (s : State) : Out :=
  .next (if s.testAsserted then s else s.jumpTo s.pfx.start)

/-- NOP, 90h (R182). -/
def execNop (s : State) : Out :=
  .next s

/-- ESC, D8h..DFh (R179). -/
def execEsc (_op : BitVec 3) (_reg : BitVec 3) (_e : Rm16) (s : State) : Out :=
  .next s

end Sys2Proof.Machine
end

