-- ==== Sys2Proof/Machine/Strings.lean ====
section
/-! DEFINITION. The meanings of the string instructions: one unit of work of each (43_string.md R138 to R146). -/

namespace Sys2Proof.Machine

/-- MOVSB, A4h (R142). -/
def execMovsb (s : State) : Out :=
  (stringUnit .movsb false (movsElem .byte) s).out

/-- MOVSW, A5h (R142). -/
def execMovsw (s : State) : Out :=
  (stringUnit .movsw false (movsElem .word) s).out

/-- CMPSB, A6h (R143). -/
def execCmpsb (s : State) : Out :=
  (stringUnit .cmpsb true (cmpsElem .byte) s).out

/-- CMPSW, A7h (R143). -/
def execCmpsw (s : State) : Out :=
  (stringUnit .cmpsw true (cmpsElem .word) s).out

/-- STOSB, AAh (R146). -/
def execStosb (s : State) : Out :=
  (stringUnit .stosb false (stosElem .byte) s).out

/-- STOSW, ABh (R146). -/
def execStosw (s : State) : Out :=
  (stringUnit .stosw false (stosElem .word) s).out

/-- LODSB, ACh (R145). -/
def execLodsb (s : State) : Out :=
  (stringUnit .lodsb false (lodsElem .byte) s).out

/-- LODSW, ADh (R145). -/
def execLodsw (s : State) : Out :=
  (stringUnit .lodsw false (lodsElem .word) s).out

/-- SCASB, AEh (R144). -/
def execScasb (s : State) : Out :=
  (stringUnit .scasb true (scasElem .byte) s).out

/-- SCASW, AFh (R144). -/
def execScasw (s : State) : Out :=
  (stringUnit .scasw true (scasElem .word) s).out

end Sys2Proof.Machine
end

