-- ==== Sys2Proof/Machine/Undocumented.lean ====
section
/-! DEFINITION. The meanings of the undocumented and always-refused encodings (47_undocumented.md R183 to R199). Class A and B run under
UNDOC_POLICY = emulate and are refused under refuse; class C is refused always, which leaves IP at the first byte and the
sticky failure in `State.fault` (60_exceptions.md R203). -/

namespace Sys2Proof.Machine

/-- A decimal digit, for the names of refused encodings (60_exceptions.md R203). -/
def digit (n : Nat) : String :=
  match n with
  | 0 => "0" | 1 => "1" | 2 => "2" | 3 => "3" | 4 => "4" | 5 => "5" | 6 => "6" | 7 => "7" | 8 => "8" | _ => "9"

/-- The repeat prefix in front of the instruction, by its byte. -/
def repByte (s : State) : String :=
  match s.pfx.rep with
  | some .repne => "F2"
  | some .repe | none => "F3"

/-- `write(E, M)` and the flags of SETMO (R196). -/
def setOnes {w : Nat} (p : Place w) (s : State) : Res Unit :=
  (p.write (BitVec.allOnes w) s).andThen fun _ s =>
    s.setFlags { s.flags with cf := false, ofl := false, af := false, sf := true, zf := false, pf := true }

/-- 60h, JO on the 8088 (R185). -/
def execJoAlias (rel : Byte) (s : State) : Out :=
  (undocumented "60" (fun s => .ok () (s.branch (Cond.o.holds s.flags) rel)) s).out

/-- 61h, JNO on the 8088 (R185). -/
def execJnoAlias (rel : Byte) (s : State) : Out :=
  (undocumented "61" (fun s => .ok () (s.branch (Cond.no.holds s.flags) rel)) s).out

/-- 62h, JB on the 8088 (R185). -/
def execJbAlias (rel : Byte) (s : State) : Out :=
  (undocumented "62" (fun s => .ok () (s.branch (Cond.b.holds s.flags) rel)) s).out

/-- 63h, JAE on the 8088 (R185). -/
def execJaeAlias (rel : Byte) (s : State) : Out :=
  (undocumented "63" (fun s => .ok () (s.branch (Cond.ae.holds s.flags) rel)) s).out

/-- 64h, JE on the 8088 (R185). -/
def execJeAlias (rel : Byte) (s : State) : Out :=
  (undocumented "64" (fun s => .ok () (s.branch (Cond.e.holds s.flags) rel)) s).out

/-- 65h, JNE on the 8088 (R185). -/
def execJneAlias (rel : Byte) (s : State) : Out :=
  (undocumented "65" (fun s => .ok () (s.branch (Cond.ne.holds s.flags) rel)) s).out

/-- 66h, JBE on the 8088 (R185). -/
def execJbeAlias (rel : Byte) (s : State) : Out :=
  (undocumented "66" (fun s => .ok () (s.branch (Cond.be.holds s.flags) rel)) s).out

/-- 67h, JA on the 8088 (R185). -/
def execJaAlias (rel : Byte) (s : State) : Out :=
  (undocumented "67" (fun s => .ok () (s.branch (Cond.a.holds s.flags) rel)) s).out

/-- 68h, JS on the 8088 (R185). -/
def execJsAlias (rel : Byte) (s : State) : Out :=
  (undocumented "68" (fun s => .ok () (s.branch (Cond.s.holds s.flags) rel)) s).out

/-- 69h, JNS on the 8088 (R185). -/
def execJnsAlias (rel : Byte) (s : State) : Out :=
  (undocumented "69" (fun s => .ok () (s.branch (Cond.ns.holds s.flags) rel)) s).out

/-- 6Ah, JP on the 8088 (R185). -/
def execJpAlias (rel : Byte) (s : State) : Out :=
  (undocumented "6A" (fun s => .ok () (s.branch (Cond.p.holds s.flags) rel)) s).out

/-- 6Bh, JNP on the 8088 (R185). -/
def execJnpAlias (rel : Byte) (s : State) : Out :=
  (undocumented "6B" (fun s => .ok () (s.branch (Cond.np.holds s.flags) rel)) s).out

/-- 6Ch, JL on the 8088 (R185). -/
def execJlAlias (rel : Byte) (s : State) : Out :=
  (undocumented "6C" (fun s => .ok () (s.branch (Cond.l.holds s.flags) rel)) s).out

/-- 6Dh, JGE on the 8088 (R185). -/
def execJgeAlias (rel : Byte) (s : State) : Out :=
  (undocumented "6D" (fun s => .ok () (s.branch (Cond.ge.holds s.flags) rel)) s).out

/-- 6Eh, JLE on the 8088 (R185). -/
def execJleAlias (rel : Byte) (s : State) : Out :=
  (undocumented "6E" (fun s => .ok () (s.branch (Cond.le.holds s.flags) rel)) s).out

/-- 6Fh, JG on the 8088 (R185). -/
def execJgAlias (rel : Byte) (s : State) : Out :=
  (undocumented "6F" (fun s => .ok () (s.branch (Cond.g.holds s.flags) rel)) s).out

/-- C0h, RET Iw on the 8088 (R186). -/
def execRetIwAlias (n : Word) (s : State) : Out :=
  (undocumented "C0" (fun s => retNear n s) s).out

/-- C1h, RET on the 8088 (R186). -/
def execRetAlias (s : State) : Out :=
  (undocumented "C1" (fun s => retNear 0 s) s).out

/-- C8h, RETF Iw on the 8088 (R186). -/
def execRetfIwAlias (n : Word) (s : State) : Out :=
  (undocumented "C8" (fun s => retFar n s) s).out

/-- C9h, RETF on the 8088 (R186). -/
def execRetfAlias (s : State) : Out :=
  (undocumented "C9" (fun s => retFar 0 s) s).out

/-- 82h /1, OR Eb,Ib on the 8088 (R187). -/
def execOrAlias82 (e : Rm8) (i : Byte) (s : State) : Out :=
  (undocumented "82 /1" (fun s => alu .or (.ebIb82 e i) s) s).out

/-- 82h /4, AND Eb,Ib on the 8088 (R187). -/
def execAndAlias82 (e : Rm8) (i : Byte) (s : State) : Out :=
  (undocumented "82 /4" (fun s => alu .and (.ebIb82 e i) s) s).out

/-- 82h /6, XOR Eb,Ib on the 8088 (R187). -/
def execXorAlias82 (e : Rm8) (i : Byte) (s : State) : Out :=
  (undocumented "82 /6" (fun s => alu .xor (.ebIb82 e i) s) s).out

/-- 83h /1, OR Ev,Ib sign-extended on the 8088 (R187). -/
def execOrAlias83 (e : Rm16) (i : Byte) (s : State) : Out :=
  (undocumented "83 /1" (fun s => alu .or (.evIs e i) s) s).out

/-- 83h /4, AND Ev,Ib sign-extended on the 8088 (R187). -/
def execAndAlias83 (e : Rm16) (i : Byte) (s : State) : Out :=
  (undocumented "83 /4" (fun s => alu .and (.evIs e i) s) s).out

/-- 83h /6, XOR Ev,Ib sign-extended on the 8088 (R187). -/
def execXorAlias83 (e : Rm16) (i : Byte) (s : State) : Out :=
  (undocumented "83 /6" (fun s => alu .xor (.evIs e i) s) s).out

/-- 8Ch /4../7, with the segment register reg AND 3 (R188). -/
def execMovEwSwAlias (e : Rm16) (r : SReg) (s : State) : Out :=
  (undocumented ("8C /" ++ digit (4 + r.code.toNat)) (fun s => (place16 e s).write (s.seg r) s) s).out

/-- 8Eh /4../7, with the segment register reg AND 3 (R188). -/
def execMovSwEwAlias (r : SReg) (e : Rm16) (s : State) : Out :=
  (undocumented ("8E /" ++ digit (4 + r.code.toNat)) (fun s =>
    match r with
    | .cs => movToCs e s
    | .es | .ss | .ds => movToSeg r e s) s).out

/-- MOV CS,Ew, 8Eh /1 (R189). -/
def execMovCsEw (e : Rm16) (s : State) : Out :=
  (undocumented "8E /1" (fun s => movToCs e s) s).out

/-- POP CS, 0Fh (R190). -/
def execPopCs (s : State) : Out :=
  (undocumented "0F" (fun s => (popSeg .cs s).andThen fun _ s => s.flush) s).out

/-- 8Fh /1, POP Ev on the 8088 (R191). -/
def execPopEvAlias1 (e : Rm16) (s : State) : Out :=
  (undocumented "8F /1" (fun s => popRm e s) s).out

/-- 8Fh /2, POP Ev on the 8088 (R191). -/
def execPopEvAlias2 (e : Rm16) (s : State) : Out :=
  (undocumented "8F /2" (fun s => popRm e s) s).out

/-- 8Fh /3, POP Ev on the 8088 (R191). -/
def execPopEvAlias3 (e : Rm16) (s : State) : Out :=
  (undocumented "8F /3" (fun s => popRm e s) s).out

/-- 8Fh /4, POP Ev on the 8088 (R191). -/
def execPopEvAlias4 (e : Rm16) (s : State) : Out :=
  (undocumented "8F /4" (fun s => popRm e s) s).out

/-- 8Fh /5, POP Ev on the 8088 (R191). -/
def execPopEvAlias5 (e : Rm16) (s : State) : Out :=
  (undocumented "8F /5" (fun s => popRm e s) s).out

/-- 8Fh /6, POP Ev on the 8088 (R191). -/
def execPopEvAlias6 (e : Rm16) (s : State) : Out :=
  (undocumented "8F /6" (fun s => popRm e s) s).out

/-- 8Fh /7, POP Ev on the 8088 (R191). -/
def execPopEvAlias7 (e : Rm16) (s : State) : Out :=
  (undocumented "8F /7" (fun s => popRm e s) s).out

/-- C6h /1, MOV Eb,Ib on the 8088 (R192). -/
def execMovEbIbAlias1 (e : Rm8) (i : Byte) (s : State) : Out :=
  (undocumented "C6 /1" (fun s => moveTo (place8 e s) (.imm i) s) s).out

/-- C6h /2, MOV Eb,Ib on the 8088 (R192). -/
def execMovEbIbAlias2 (e : Rm8) (i : Byte) (s : State) : Out :=
  (undocumented "C6 /2" (fun s => moveTo (place8 e s) (.imm i) s) s).out

/-- C6h /3, MOV Eb,Ib on the 8088 (R192). -/
def execMovEbIbAlias3 (e : Rm8) (i : Byte) (s : State) : Out :=
  (undocumented "C6 /3" (fun s => moveTo (place8 e s) (.imm i) s) s).out

/-- C6h /4, MOV Eb,Ib on the 8088 (R192). -/
def execMovEbIbAlias4 (e : Rm8) (i : Byte) (s : State) : Out :=
  (undocumented "C6 /4" (fun s => moveTo (place8 e s) (.imm i) s) s).out

/-- C6h /5, MOV Eb,Ib on the 8088 (R192). -/
def execMovEbIbAlias5 (e : Rm8) (i : Byte) (s : State) : Out :=
  (undocumented "C6 /5" (fun s => moveTo (place8 e s) (.imm i) s) s).out

/-- C6h /6, MOV Eb,Ib on the 8088 (R192). -/
def execMovEbIbAlias6 (e : Rm8) (i : Byte) (s : State) : Out :=
  (undocumented "C6 /6" (fun s => moveTo (place8 e s) (.imm i) s) s).out

/-- C6h /7, MOV Eb,Ib on the 8088 (R192). -/
def execMovEbIbAlias7 (e : Rm8) (i : Byte) (s : State) : Out :=
  (undocumented "C6 /7" (fun s => moveTo (place8 e s) (.imm i) s) s).out

/-- C7h /1, MOV Ev,Iv on the 8088 (R192). -/
def execMovEvIvAlias1 (e : Rm16) (i : Word) (s : State) : Out :=
  (undocumented "C7 /1" (fun s => moveTo (place16 e s) (.imm i) s) s).out

/-- C7h /2, MOV Ev,Iv on the 8088 (R192). -/
def execMovEvIvAlias2 (e : Rm16) (i : Word) (s : State) : Out :=
  (undocumented "C7 /2" (fun s => moveTo (place16 e s) (.imm i) s) s).out

/-- C7h /3, MOV Ev,Iv on the 8088 (R192). -/
def execMovEvIvAlias3 (e : Rm16) (i : Word) (s : State) : Out :=
  (undocumented "C7 /3" (fun s => moveTo (place16 e s) (.imm i) s) s).out

/-- C7h /4, MOV Ev,Iv on the 8088 (R192). -/
def execMovEvIvAlias4 (e : Rm16) (i : Word) (s : State) : Out :=
  (undocumented "C7 /4" (fun s => moveTo (place16 e s) (.imm i) s) s).out

/-- C7h /5, MOV Ev,Iv on the 8088 (R192). -/
def execMovEvIvAlias5 (e : Rm16) (i : Word) (s : State) : Out :=
  (undocumented "C7 /5" (fun s => moveTo (place16 e s) (.imm i) s) s).out

/-- C7h /6, MOV Ev,Iv on the 8088 (R192). -/
def execMovEvIvAlias6 (e : Rm16) (i : Word) (s : State) : Out :=
  (undocumented "C7 /6" (fun s => moveTo (place16 e s) (.imm i) s) s).out

/-- C7h /7, MOV Ev,Iv on the 8088 (R192). -/
def execMovEvIvAlias7 (e : Rm16) (i : Word) (s : State) : Out :=
  (undocumented "C7 /7" (fun s => moveTo (place16 e s) (.imm i) s) s).out

/-- F6h /1 and F7h /1, TEST on the 8088 (R193). -/
def execTestAlias (f : RmImm) (s : State) : Out :=
  match f with
  | .b e i => (undocumented "F6 /1" (fun s => testOn (.place (place8 e s)) (.imm i) s) s).out
  | .w e i => (undocumented "F7 /1" (fun s => testOn (.place (place16 e s)) (.imm i) s) s).out

/-- FFh /7, PUSH Ev on the 8088 (R194). -/
def execPushEvAlias (e : Rm16) (s : State) : Out :=
  (undocumented "FF /7" (fun s => pushRm e s) s).out

/-- SALC, D6h (R195). -/
def execSalc (s : State) : Out :=
  (undocumented "D6" (fun s => .ok () (s.setReg8 .al (if s.flags.cf then 0xFF else 0x00))) s).out

/-- SETMO, D0h /6 and D1h /6 (R196). -/
def execSetmo (f : RmForm) (s : State) : Out :=
  match f with
  | .b e => (undocumented "D0 /6" (fun s => setOnes (place8 e s) s) s).out
  | .w e => (undocumented "D1 /6" (fun s => setOnes (place16 e s) s) s).out

/-- SETMOC, D2h /6 and D3h /6 (R196). -/
def execSetmoc (f : RmForm) (s : State) : Out :=
  match f with
  | .b e => (undocumented "D2 /6" (fun s => if s.reg8 .cl = 0 then .ok () s else setOnes (place8 e s) s) s).out
  | .w e => (undocumented "D3 /6" (fun s => if s.reg8 .cl = 0 then .ok () s else setOnes (place16 e s) s) s).out

/-- FEh /2, always refused (R197). -/
def execFe2 (_e : Rm8) (s : State) : Out :=
  .next (s.refuse "FE /2")

/-- FEh /3, always refused (R197). -/
def execFe3 (_e : Rm8) (s : State) : Out :=
  .next (s.refuse "FE /3")

/-- FEh /4, always refused (R197). -/
def execFe4 (_e : Rm8) (s : State) : Out :=
  .next (s.refuse "FE /4")

/-- FEh /5, always refused (R197). -/
def execFe5 (_e : Rm8) (s : State) : Out :=
  .next (s.refuse "FE /5")

/-- FEh /6, always refused (R197). -/
def execFe6 (_e : Rm8) (s : State) : Out :=
  .next (s.refuse "FE /6")

/-- FEh /7, always refused (R197). -/
def execFe7 (_e : Rm8) (s : State) : Out :=
  .next (s.refuse "FE /7")

/-- 8Dh with mod = 11, always refused (R198). -/
def execLeaReg (_g : Reg16) (_r : Reg16) (s : State) : Out :=
  .next (s.refuse "8D mod=11")

/-- C4h with mod = 11, always refused (R198). -/
def execLesReg (_g : Reg16) (_r : Reg16) (s : State) : Out :=
  .next (s.refuse "C4 mod=11")

/-- C5h with mod = 11, always refused (R198). -/
def execLdsReg (_g : Reg16) (_r : Reg16) (s : State) : Out :=
  .next (s.refuse "C5 mod=11")

/-- FFh /3 with mod = 11, always refused (R198). -/
def execCallFarReg (_r : Reg16) (s : State) : Out :=
  .next (s.refuse "FF /3 mod=11")

/-- FFh /5 with mod = 11, always refused (R198). -/
def execJmpFarReg (_r : Reg16) (s : State) : Out :=
  .next (s.refuse "FF /5 mod=11")

/-- F6h/F7h /4../7 after an F2h or F3h prefix, always refused (R199). -/
def execRepMulDiv (o : MulDivOp) (f : RmForm) (s : State) : Out :=
  match f with
  | .b _ => .next (s.refuse (repByte s ++ " + F6 /" ++ digit o.code.toNat))
  | .w _ => .next (s.refuse (repByte s ++ " + F7 /" ++ digit o.code.toNat))

end Sys2Proof.Machine
end

