-- ==== Sys2Proof/Machine/Dispatch.lean ====
section
/-! DEFINITION. One arm per constructor of Instr, each one direct call of its meaning. -/

namespace Sys2Proof.Machine

def exec (i : Instr) (s : State) : Host.Outcome State Fault Refusal :=
  match i with
  -- Prefixes
  | .segEs => Sys2Proof.Machine.execSegEs s
  | .segCs => Sys2Proof.Machine.execSegCs s
  | .segSs => Sys2Proof.Machine.execSegSs s
  | .segDs => Sys2Proof.Machine.execSegDs s
  | .lock => Sys2Proof.Machine.execLock s
  | .lockF1 => Sys2Proof.Machine.execLockF1 s
  | .repne => Sys2Proof.Machine.execRepne s
  | .rep => Sys2Proof.Machine.execRep s
  -- DataTransfer
  | .mov f => Sys2Proof.Machine.execMov f s
  | .movEbIb e imm => Sys2Proof.Machine.execMovEbIb e imm s
  | .movEvIv e imm => Sys2Proof.Machine.execMovEvIv e imm s
  | .movAlIb imm => Sys2Proof.Machine.execMovAlIb imm s
  | .movClIb imm => Sys2Proof.Machine.execMovClIb imm s
  | .movDlIb imm => Sys2Proof.Machine.execMovDlIb imm s
  | .movBlIb imm => Sys2Proof.Machine.execMovBlIb imm s
  | .movAhIb imm => Sys2Proof.Machine.execMovAhIb imm s
  | .movChIb imm => Sys2Proof.Machine.execMovChIb imm s
  | .movDhIb imm => Sys2Proof.Machine.execMovDhIb imm s
  | .movBhIb imm => Sys2Proof.Machine.execMovBhIb imm s
  | .movAxIv imm => Sys2Proof.Machine.execMovAxIv imm s
  | .movCxIv imm => Sys2Proof.Machine.execMovCxIv imm s
  | .movDxIv imm => Sys2Proof.Machine.execMovDxIv imm s
  | .movBxIv imm => Sys2Proof.Machine.execMovBxIv imm s
  | .movSpIv imm => Sys2Proof.Machine.execMovSpIv imm s
  | .movBpIv imm => Sys2Proof.Machine.execMovBpIv imm s
  | .movSiIv imm => Sys2Proof.Machine.execMovSiIv imm s
  | .movDiIv imm => Sys2Proof.Machine.execMovDiIv imm s
  | .movEwSw e r => Sys2Proof.Machine.execMovEwSw e r s
  | .movEsEw e => Sys2Proof.Machine.execMovEsEw e s
  | .movSsEw e => Sys2Proof.Machine.execMovSsEw e s
  | .movDsEw e => Sys2Proof.Machine.execMovDsEw e s
  | .pushAx => Sys2Proof.Machine.execPushAx s
  | .pushCx => Sys2Proof.Machine.execPushCx s
  | .pushDx => Sys2Proof.Machine.execPushDx s
  | .pushBx => Sys2Proof.Machine.execPushBx s
  | .pushSp => Sys2Proof.Machine.execPushSp s
  | .pushBp => Sys2Proof.Machine.execPushBp s
  | .pushSi => Sys2Proof.Machine.execPushSi s
  | .pushDi => Sys2Proof.Machine.execPushDi s
  | .pushEs => Sys2Proof.Machine.execPushEs s
  | .pushCs => Sys2Proof.Machine.execPushCs s
  | .pushSs => Sys2Proof.Machine.execPushSs s
  | .pushDs => Sys2Proof.Machine.execPushDs s
  | .pushEv e => Sys2Proof.Machine.execPushEv e s
  | .popAx => Sys2Proof.Machine.execPopAx s
  | .popCx => Sys2Proof.Machine.execPopCx s
  | .popDx => Sys2Proof.Machine.execPopDx s
  | .popBx => Sys2Proof.Machine.execPopBx s
  | .popSp => Sys2Proof.Machine.execPopSp s
  | .popBp => Sys2Proof.Machine.execPopBp s
  | .popSi => Sys2Proof.Machine.execPopSi s
  | .popDi => Sys2Proof.Machine.execPopDi s
  | .popEs => Sys2Proof.Machine.execPopEs s
  | .popSs => Sys2Proof.Machine.execPopSs s
  | .popDs => Sys2Proof.Machine.execPopDs s
  | .popEv e => Sys2Proof.Machine.execPopEv e s
  | .xchg f => Sys2Proof.Machine.execXchg f s
  | .xchgAxCx => Sys2Proof.Machine.execXchgAxCx s
  | .xchgAxDx => Sys2Proof.Machine.execXchgAxDx s
  | .xchgAxBx => Sys2Proof.Machine.execXchgAxBx s
  | .xchgAxSp => Sys2Proof.Machine.execXchgAxSp s
  | .xchgAxBp => Sys2Proof.Machine.execXchgAxBp s
  | .xchgAxSi => Sys2Proof.Machine.execXchgAxSi s
  | .xchgAxDi => Sys2Proof.Machine.execXchgAxDi s
  | .xlat => Sys2Proof.Machine.execXlat s
  | .inp f => Sys2Proof.Machine.execInp f s
  | .outp f => Sys2Proof.Machine.execOutp f s
  | .lea g m => Sys2Proof.Machine.execLea g m s
  | .les g m => Sys2Proof.Machine.execLes g m s
  | .lds g m => Sys2Proof.Machine.execLds g m s
  | .lahf => Sys2Proof.Machine.execLahf s
  | .sahf => Sys2Proof.Machine.execSahf s
  | .pushf => Sys2Proof.Machine.execPushf s
  | .popf => Sys2Proof.Machine.execPopf s
  -- Arithmetic
  | .add f => Sys2Proof.Machine.execAdd f s
  | .adc f => Sys2Proof.Machine.execAdc f s
  | .sub f => Sys2Proof.Machine.execSub f s
  | .sbb f => Sys2Proof.Machine.execSbb f s
  | .cmp f => Sys2Proof.Machine.execCmp f s
  | .incAx => Sys2Proof.Machine.execIncAx s
  | .incCx => Sys2Proof.Machine.execIncCx s
  | .incDx => Sys2Proof.Machine.execIncDx s
  | .incBx => Sys2Proof.Machine.execIncBx s
  | .incSp => Sys2Proof.Machine.execIncSp s
  | .incBp => Sys2Proof.Machine.execIncBp s
  | .incSi => Sys2Proof.Machine.execIncSi s
  | .incDi => Sys2Proof.Machine.execIncDi s
  | .incEb e => Sys2Proof.Machine.execIncEb e s
  | .incEv e => Sys2Proof.Machine.execIncEv e s
  | .decAx => Sys2Proof.Machine.execDecAx s
  | .decCx => Sys2Proof.Machine.execDecCx s
  | .decDx => Sys2Proof.Machine.execDecDx s
  | .decBx => Sys2Proof.Machine.execDecBx s
  | .decSp => Sys2Proof.Machine.execDecSp s
  | .decBp => Sys2Proof.Machine.execDecBp s
  | .decSi => Sys2Proof.Machine.execDecSi s
  | .decDi => Sys2Proof.Machine.execDecDi s
  | .decEb e => Sys2Proof.Machine.execDecEb e s
  | .decEv e => Sys2Proof.Machine.execDecEv e s
  | .neg f => Sys2Proof.Machine.execNeg f s
  | .mul f => Sys2Proof.Machine.execMul f s
  | .imul f => Sys2Proof.Machine.execImul f s
  | .div f => Sys2Proof.Machine.execDiv f s
  | .idiv f => Sys2Proof.Machine.execIdiv f s
  | .daa => Sys2Proof.Machine.execDaa s
  | .das => Sys2Proof.Machine.execDas s
  | .aaa => Sys2Proof.Machine.execAaa s
  | .aas => Sys2Proof.Machine.execAas s
  | .aam b => Sys2Proof.Machine.execAam b s
  | .aad b => Sys2Proof.Machine.execAad b s
  | .cbw => Sys2Proof.Machine.execCbw s
  | .cwd => Sys2Proof.Machine.execCwd s
  -- Logic
  | .and f => Sys2Proof.Machine.execAnd f s
  | .or f => Sys2Proof.Machine.execOr f s
  | .xor f => Sys2Proof.Machine.execXor f s
  | .test f => Sys2Proof.Machine.execTest f s
  | .not f => Sys2Proof.Machine.execNot f s
  | .rol f => Sys2Proof.Machine.execRol f s
  | .ror f => Sys2Proof.Machine.execRor f s
  | .rcl f => Sys2Proof.Machine.execRcl f s
  | .rcr f => Sys2Proof.Machine.execRcr f s
  | .shl f => Sys2Proof.Machine.execShl f s
  | .shr f => Sys2Proof.Machine.execShr f s
  | .sar f => Sys2Proof.Machine.execSar f s
  -- Strings
  | .movsb => Sys2Proof.Machine.execMovsb s
  | .movsw => Sys2Proof.Machine.execMovsw s
  | .cmpsb => Sys2Proof.Machine.execCmpsb s
  | .cmpsw => Sys2Proof.Machine.execCmpsw s
  | .stosb => Sys2Proof.Machine.execStosb s
  | .stosw => Sys2Proof.Machine.execStosw s
  | .lodsb => Sys2Proof.Machine.execLodsb s
  | .lodsw => Sys2Proof.Machine.execLodsw s
  | .scasb => Sys2Proof.Machine.execScasb s
  | .scasw => Sys2Proof.Machine.execScasw s
  -- Control
  | .jo rel => Sys2Proof.Machine.execJo rel s
  | .jno rel => Sys2Proof.Machine.execJno rel s
  | .jb rel => Sys2Proof.Machine.execJb rel s
  | .jae rel => Sys2Proof.Machine.execJae rel s
  | .je rel => Sys2Proof.Machine.execJe rel s
  | .jne rel => Sys2Proof.Machine.execJne rel s
  | .jbe rel => Sys2Proof.Machine.execJbe rel s
  | .ja rel => Sys2Proof.Machine.execJa rel s
  | .js rel => Sys2Proof.Machine.execJs rel s
  | .jns rel => Sys2Proof.Machine.execJns rel s
  | .jp rel => Sys2Proof.Machine.execJp rel s
  | .jnp rel => Sys2Proof.Machine.execJnp rel s
  | .jl rel => Sys2Proof.Machine.execJl rel s
  | .jge rel => Sys2Proof.Machine.execJge rel s
  | .jle rel => Sys2Proof.Machine.execJle rel s
  | .jg rel => Sys2Proof.Machine.execJg rel s
  | .loopne rel => Sys2Proof.Machine.execLoopne rel s
  | .loope rel => Sys2Proof.Machine.execLoope rel s
  | .loop rel => Sys2Proof.Machine.execLoop rel s
  | .jcxz rel => Sys2Proof.Machine.execJcxz rel s
  | .jmpShort rel => Sys2Proof.Machine.execJmpShort rel s
  | .jmp rel => Sys2Proof.Machine.execJmp rel s
  | .jmpFar off seg => Sys2Proof.Machine.execJmpFar off seg s
  | .jmpEv e => Sys2Proof.Machine.execJmpEv e s
  | .jmpFarMp m => Sys2Proof.Machine.execJmpFarMp m s
  | .call rel => Sys2Proof.Machine.execCall rel s
  | .callFar off seg => Sys2Proof.Machine.execCallFar off seg s
  | .callEv e => Sys2Proof.Machine.execCallEv e s
  | .callFarMp m => Sys2Proof.Machine.execCallFarMp m s
  | .ret => Sys2Proof.Machine.execRet s
  | .retIw n => Sys2Proof.Machine.execRetIw n s
  | .retf => Sys2Proof.Machine.execRetf s
  | .retfIw n => Sys2Proof.Machine.execRetfIw n s
  -- Interrupts
  | .int n => Sys2Proof.Machine.execInt n s
  | .int3 => Sys2Proof.Machine.execInt3 s
  | .into => Sys2Proof.Machine.execInto s
  | .iret => Sys2Proof.Machine.execIret s
  -- Processor
  | .clc => Sys2Proof.Machine.execClc s
  | .stc => Sys2Proof.Machine.execStc s
  | .cmc => Sys2Proof.Machine.execCmc s
  | .cld => Sys2Proof.Machine.execCld s
  | .std => Sys2Proof.Machine.execStd s
  | .cli => Sys2Proof.Machine.execCli s
  | .sti => Sys2Proof.Machine.execSti s
  | .hlt => Sys2Proof.Machine.execHlt s
  | .wait => Sys2Proof.Machine.execWait s
  | .nop => Sys2Proof.Machine.execNop s
  | .esc op reg e => Sys2Proof.Machine.execEsc op reg e s
  -- Undocumented
  | .joAlias rel => Sys2Proof.Machine.execJoAlias rel s
  | .jnoAlias rel => Sys2Proof.Machine.execJnoAlias rel s
  | .jbAlias rel => Sys2Proof.Machine.execJbAlias rel s
  | .jaeAlias rel => Sys2Proof.Machine.execJaeAlias rel s
  | .jeAlias rel => Sys2Proof.Machine.execJeAlias rel s
  | .jneAlias rel => Sys2Proof.Machine.execJneAlias rel s
  | .jbeAlias rel => Sys2Proof.Machine.execJbeAlias rel s
  | .jaAlias rel => Sys2Proof.Machine.execJaAlias rel s
  | .jsAlias rel => Sys2Proof.Machine.execJsAlias rel s
  | .jnsAlias rel => Sys2Proof.Machine.execJnsAlias rel s
  | .jpAlias rel => Sys2Proof.Machine.execJpAlias rel s
  | .jnpAlias rel => Sys2Proof.Machine.execJnpAlias rel s
  | .jlAlias rel => Sys2Proof.Machine.execJlAlias rel s
  | .jgeAlias rel => Sys2Proof.Machine.execJgeAlias rel s
  | .jleAlias rel => Sys2Proof.Machine.execJleAlias rel s
  | .jgAlias rel => Sys2Proof.Machine.execJgAlias rel s
  | .retIwAlias n => Sys2Proof.Machine.execRetIwAlias n s
  | .retAlias => Sys2Proof.Machine.execRetAlias s
  | .retfIwAlias n => Sys2Proof.Machine.execRetfIwAlias n s
  | .retfAlias => Sys2Proof.Machine.execRetfAlias s
  | .orAlias82 e imm => Sys2Proof.Machine.execOrAlias82 e imm s
  | .andAlias82 e imm => Sys2Proof.Machine.execAndAlias82 e imm s
  | .xorAlias82 e imm => Sys2Proof.Machine.execXorAlias82 e imm s
  | .orAlias83 e imm => Sys2Proof.Machine.execOrAlias83 e imm s
  | .andAlias83 e imm => Sys2Proof.Machine.execAndAlias83 e imm s
  | .xorAlias83 e imm => Sys2Proof.Machine.execXorAlias83 e imm s
  | .movEwSwAlias e r => Sys2Proof.Machine.execMovEwSwAlias e r s
  | .movSwEwAlias r e => Sys2Proof.Machine.execMovSwEwAlias r e s
  | .movCsEw e => Sys2Proof.Machine.execMovCsEw e s
  | .popCs => Sys2Proof.Machine.execPopCs s
  | .popEvAlias1 e => Sys2Proof.Machine.execPopEvAlias1 e s
  | .popEvAlias2 e => Sys2Proof.Machine.execPopEvAlias2 e s
  | .popEvAlias3 e => Sys2Proof.Machine.execPopEvAlias3 e s
  | .popEvAlias4 e => Sys2Proof.Machine.execPopEvAlias4 e s
  | .popEvAlias5 e => Sys2Proof.Machine.execPopEvAlias5 e s
  | .popEvAlias6 e => Sys2Proof.Machine.execPopEvAlias6 e s
  | .popEvAlias7 e => Sys2Proof.Machine.execPopEvAlias7 e s
  | .movEbIbAlias1 e imm => Sys2Proof.Machine.execMovEbIbAlias1 e imm s
  | .movEbIbAlias2 e imm => Sys2Proof.Machine.execMovEbIbAlias2 e imm s
  | .movEbIbAlias3 e imm => Sys2Proof.Machine.execMovEbIbAlias3 e imm s
  | .movEbIbAlias4 e imm => Sys2Proof.Machine.execMovEbIbAlias4 e imm s
  | .movEbIbAlias5 e imm => Sys2Proof.Machine.execMovEbIbAlias5 e imm s
  | .movEbIbAlias6 e imm => Sys2Proof.Machine.execMovEbIbAlias6 e imm s
  | .movEbIbAlias7 e imm => Sys2Proof.Machine.execMovEbIbAlias7 e imm s
  | .movEvIvAlias1 e imm => Sys2Proof.Machine.execMovEvIvAlias1 e imm s
  | .movEvIvAlias2 e imm => Sys2Proof.Machine.execMovEvIvAlias2 e imm s
  | .movEvIvAlias3 e imm => Sys2Proof.Machine.execMovEvIvAlias3 e imm s
  | .movEvIvAlias4 e imm => Sys2Proof.Machine.execMovEvIvAlias4 e imm s
  | .movEvIvAlias5 e imm => Sys2Proof.Machine.execMovEvIvAlias5 e imm s
  | .movEvIvAlias6 e imm => Sys2Proof.Machine.execMovEvIvAlias6 e imm s
  | .movEvIvAlias7 e imm => Sys2Proof.Machine.execMovEvIvAlias7 e imm s
  | .testAlias f => Sys2Proof.Machine.execTestAlias f s
  | .pushEvAlias e => Sys2Proof.Machine.execPushEvAlias e s
  | .salc => Sys2Proof.Machine.execSalc s
  | .setmo f => Sys2Proof.Machine.execSetmo f s
  | .setmoc f => Sys2Proof.Machine.execSetmoc f s
  | .fe2 e => Sys2Proof.Machine.execFe2 e s
  | .fe3 e => Sys2Proof.Machine.execFe3 e s
  | .fe4 e => Sys2Proof.Machine.execFe4 e s
  | .fe5 e => Sys2Proof.Machine.execFe5 e s
  | .fe6 e => Sys2Proof.Machine.execFe6 e s
  | .fe7 e => Sys2Proof.Machine.execFe7 e s
  | .leaReg g r => Sys2Proof.Machine.execLeaReg g r s
  | .lesReg g r => Sys2Proof.Machine.execLesReg g r s
  | .ldsReg g r => Sys2Proof.Machine.execLdsReg g r s
  | .callFarReg r => Sys2Proof.Machine.execCallFarReg r s
  | .jmpFarReg r => Sys2Proof.Machine.execJmpFarReg r s
  | .repMulDiv o f => Sys2Proof.Machine.execRepMulDiv o f s

end Sys2Proof.Machine
end

