-- ==== Sys2Proof/Machine/Unit.lean ====
section
/-! DEFINITION. One unit of work and its boundary (60_exceptions.md R217): finding the next instruction and its prefixes
(30_encoding.md R71), consuming their bytes, running them, the single-step latch (60_exceptions.md R207) and the
service chain (R210). Also how a table word is placed for the next fetch. -/

namespace Sys2Proof.Machine

/-! ## Reading the next instruction (R71) -/

/-- The bytes `fetch_next_byte()` would supply from `off` bytes ahead, enough for the longest instruction without
prefixes (20_memory.md R57, 30_encoding.md R62). -/
def State.window (s : State) (off : Nat) : List Byte :=
  (List.range maxInstrBytes).map fun i => s.peek (off + i)

/-- What `decode()` finds (R71): the prefix bytes in order, the instruction, and the length of all of it. -/
structure Scan where
  prefixes : List Instr
  ins : Instr
  length : Nat
  deriving DecidableEq, Repr

/-- The loop of `decode()` (R71) from `off` bytes ahead; `rep` says whether a repeat prefix has been read. `none` when the
fuel runs out in prefixes. -/
def scanFrom (s : State) : Nat → Nat → Bool → Option Scan
  | 0, _, _ => none
  | fuel + 1, off, rep =>
    match decode rep (s.window off) with
    | .error _ => none
    | .ok (i, rest) =>
      let off' := off + (maxInstrBytes - rest.length)
      if i.isPrefix then
        match scanFrom s fuel off' (rep || i.isRepPrefix) with
        | some r => some { r with prefixes := i :: r.prefixes }
        | none => none
      else some ⟨[], i, off'⟩

/-- The instruction at the program counter with its prefixes. It reads the queue and memory as they are before the fill
point that starts the unit: a fill moves the same bytes into the queue (DEDUCED, notes/assumptions/11.md). -/
def State.scan (s : State) : Option Scan := scanFrom s (Config.maxPrefixes + 1) 0 false

/-! ## Running it -/

/-- Run an instruction after another one unless that one stopped the unit. -/
def execNext (i : Instr) (o : Out) : Out :=
  match o with
  | .next s => if s.fault.isSome then .next s else exec i s
  | .fault f => .fault f
  | .refused r => .refused r

/-- The prefixes in order, then the instruction. -/
def execAll (c : Scan) (s : State) : Out :=
  execNext c.ins (c.prefixes.foldl (fun o p => execNext p o) (.next s))

/-- The fill point that starts a unit and `n` bytes consumed by the decoder, each by `fetch_next_byte()` (R217, R71). -/
def fetchUnit (n : Nat) (s : State) : Res Unit :=
  (fill s).bind fun _ t => consume n { t with pfx := { Prefixes.none with start := t.ip } }

/-- How many bytes the decode loop reads before it is known not to end: the queue, every offset of the code segment, and as far
as the highest call number the collaborator singles out. With none of these fetches rejected, none ever is. -/
def State.endlessBytes (s : State) : Nat :=
  s.queue.length + Config.maxPrefixes + s.rejects.foldr (fun r n => max (r.call.getD 0) n) 0

/-- The unit of work of `step()` (R217): a fill point, then the next iteration of a repetition in progress, or the next
instruction, decoded, its bytes consumed, and executed. Where prefixes fill the code segment, the decode loop goes on
until a rejected fetch stops it with the bus fault (R202), and never ends where there is none. -/
def unitOfWork (s : State) : Out :=
  match s.rep with
  | some r =>
    match fill s with
    | .stop t => .next t
    | .ok _ t => exec r.ins { t with pfx := r.pfx }
  | none =>
    match s.scan with
    | some c =>
      match fetchUnit c.length s with
      | .stop t => .next t
      | .ok _ t => execAll c t
    | none =>
      match fetchUnit s.endlessBytes s with
      | .stop t => .next t
      | .ok _ _ => .fault .endlessPrefixes

/-- The end of a unit that began with `TF = tf0` (R217): the single-step latch (R207) and the service chain, unless a
terminal failure stopped the unit. -/
def boundary (tf0 : Bool) (t : State) : State :=
  if t.fault.isSome then { t with pfx := Prefixes.none }
  else (serviceChain { t with ssLatch := t.ssLatch || tf0, pfx := Prefixes.none }).state

/-- Will a halted core service a request (R217)? -/
def State.wakes (s : State) : Bool := !s.nmiQ.isEmpty || (s.flags.ifl && !s.intrQ.isEmpty)

/-- `step()` in a state without a terminal failure (R217). -/
def stepRunning (s : State) : Out :=
  if s.halted then .next (if s.wakes then (serviceChain s).state else s)
  else
    match unitOfWork s with
    | .next t => .next (boundary s.flags.tf t)
    | .fault f => .fault f
    | .refused r => .refused r

/-- `step()` (R217): in a state with a terminal failure it returns that failure and does nothing. -/
def stepState (s : State) : Out :=
  match s.fault with
  | some f => .fault (.stopped f)
  | none => stepRunning s

/-! ## A table word at the next fetch -/

/-- The bytes stored from offset `off` of the segment CS. -/
def placeBytes (seg : Word) : Word → List Byte → Memory → Memory
  | _, [], m => m
  | off, b :: bs, m => placeBytes seg (off + 1) bs (m.write (phys seg off) b)

/-- The state with the bytes of a table word at CS:IP, about to fetch them: the queue holds nothing older, no repetition
is in progress, and the core is neither halted nor stopped (notes/assumptions/19.md). -/
def withFetchBytes (bs : List Byte) (s : State) : State :=
  { s with
    mem := placeBytes s.sreg.cs s.ip bs s.mem
    queue := []
    fetchIp := s.ip
    halted := false
    rep := none
    fault := none
    pfx := Prefixes.none }

end Sys2Proof.Machine
end

