-- ==== Sys2Proof/Machine/Step.lean ====
section
/-! DEFINITION. The step of the machine, and a table word placed where it fetches next. -/

namespace Sys2Proof.Machine

/-- One call of `step()` (60_exceptions.md R217). -/
def step (s : State) : Host.Outcome State Fault Refusal := stepState s

/-- The state with the table word `w` of `nbits` bits (zeros above them) at the program counter, so that the next `step`
fetches and runs it. -/
def State.withFetchWord (s : State) (nbits w : Nat) : State := withFetchBytes (Sys2Proof.tableBytes nbits w) s

end Sys2Proof.Machine
end

