-- ==== Sys2Proof/Machine/HostOps.lean ====
section
/-! DEFINITION. The core's interface to its host (60_exceptions.md R219): what the host may do between two steps, the
results of `step()` by name (R217), `step_n` (R218) and the snapshot (10_state.md R39). -/

namespace Sys2Proof.Machine

/-! ## From the host to the core -/

/-- `raise_request(vector, maskable)` (R206): appended to its queue, never merged or dropped. -/
def State.raiseRequest (s : State) (vector : Byte) (maskable : Bool) : State :=
  if maskable then { s with intrQ := s.intrQ ++ [vector] } else { s with nmiQ := s.nmiQ ++ [vector] }

/-- The host drives the TEST input (46_processor_control.md R178). -/
def State.setTest (s : State) (asserted : Bool) : State := { s with testAsserted := asserted }

/-- `reset()` (70_reset_and_hazards.md R224) with the draw RESET_GPR = `g`: every field of the core's state record at its
reset value, memory and the outside of the core as they are. -/
def State.resetWith (s : State) (g : Gprs) : State :=
  { State.reset with
    gpr := g
    mem := s.mem
    params := s.params
    testAsserted := s.testAsserted
    rejects := s.rejects
    busLog := s.busLog
    draws := s.draws }

/-! ## From the core to the host -/

/-- The read-only snapshot (10_state.md R39). -/
structure Snapshot where
  gpr : Gprs
  sreg : Sregs
  ip : Word
  flags : Word
  halted : Bool
  fault : Option Terminal
  deriving DecidableEq, Repr

def State.snapshot (s : State) : Snapshot := ⟨s.gpr, s.sreg, s.ip, flagsImage s.flags, s.halted, s.fault⟩

/-- What `step()` returns (R217). -/
inductive StepResult where
  | executed
  | serviced
  | idle
  | stopped (t : Terminal)
  deriving DecidableEq, Repr

/-- The result of a step from `s` to `t` (R217). -/
def stepResult (s t : State) : StepResult :=
  match t.fault with
  | some f => .stopped f
  | none => if s.halted then (if s.wakes then .serviced else .idle) else .executed

/-- The controller's *request-pending* (R216): derived from the pending fields, read by no rule. -/
def State.requestPending (s : State) : Bool :=
  s.internalReq.isSome || !s.nmiQ.isEmpty || !s.intrQ.isEmpty || s.ssLatch

/-- What `step_n` returns: the number of `Executed` results and the terminal failure, with the state it ends in. -/
structure RunResult where
  count : Nat
  fault : Option Terminal
  state : State
  deriving DecidableEq, Repr

/-- The calls of `step_n` with `k` results still to count. -/
def runSteps : Nat → Nat → State → RunResult
  | 0, _, s => ⟨0, none, s⟩
  | _ + 1, 0, s => ⟨0, none, s⟩
  | fuel + 1, k + 1, s =>
    match step s with
    | .fault (.stopped f) => ⟨0, some f, s⟩
    | .fault .endlessPrefixes => ⟨0, none, s⟩
    | .refused _ => ⟨0, none, s⟩
    | .next t =>
      match stepResult s t with
      | .executed => let r := runSteps fuel k t; { r with count := r.count + 1 }
      | .serviced => runSteps fuel (k + 1) t
      | .idle => ⟨0, none, t⟩
      | .stopped f => ⟨0, some f, t⟩

/-- `step_n(k)` (R218). A `Serviced` step leaves the halted state or clears `inhibit`, so `2k + 1` calls are
enough. -/
def stepN (k : Nat) (s : State) : RunResult := runSteps (2 * k + 1) k s

end Sys2Proof.Machine
end

