-- ==== Sys2Proof/Safety.lean ====
section
/-! DEFINITION. The terms in which claims about the machine are stated: what it means that the bus accepts, the effect of an
instruction on the registers and memory without the transactions that carry it (operand views `val` and `put`), results
with their flags, the invariant, where an instruction stores, and the rows of the opcode map as functions of their register
or group number. Nothing here is used by the machine. -/

namespace Sys2Proof.Machine

/-! ## Accepted transactions and completion -/

/-- The bus collaborator accepts every access (20_memory.md R40). -/
def State.accepts (s : State) : Prop := ∀ n sp wr a, s.rejectedAt n sp wr a = false

/-- The bus collaborator rejects this access as the next data transaction, whether or not the fetches of a fill point (at most
the queue's capacity, 20_memory.md R58) come before it. -/
def State.rejectsNext (s : State) (sp : Space) (wr : Bool) (a : Nat) : Prop :=
  ∀ k, k ≤ Config.queueSize → s.rejectedAt (s.busLog.length + k) sp wr a = true

/-- The first rejected one of the next fetch reads is the `j`-th. -/
def State.firstRejectedFetch (s : State) (j : Nat) : Prop :=
  (∀ i, i < j → s.rejectedAt (s.busLog.length + i) .memory false (s.fetchAddr i).toNat = false)
    ∧ s.rejectedAt (s.busLog.length + j) .memory false (s.fetchAddr j).toNat = true

/-- Is it one of BIU's own reads (20_memory.md R58)? -/
def BusOp.isFetch : BusOp → Bool
  | .fetch _ _ => true
  | _ => false

/-- The data transactions of a log, newest first (20_memory.md R52). -/
def dataOps (l : List BusOp) : List BusOp := l.filter fun o => !o.isFetch

/-- From `s` to `t` there was one data transaction, `o`, and it came last (20_memory.md R52). -/
def State.accessed (s t : State) (o : BusOp) : Prop :=
  t.busLog.head? = some o ∧ dataOps t.busLog = o :: dataOps s.busLog

/-- `s` with the four fields that fill points and draws change taken from `t`: the queue, the fetch cursor, the transactions
so far and the counter of draws (20_memory.md R58, 00_scope.md R14). -/
def State.withBiu (s t : State) : State :=
  { s with queue := t.queue, fetchIp := t.fetchIp, busLog := t.busLog, draws := t.draws }

/-- The unit stopped with the bus fault in the state `e` but for the BIU's fields (60_exceptions.md R202). -/
def StopsAt {α : Type} (r : Res α) (e : State) : Prop :=
  ∃ t, r = .stop t ∧ t = ({ e with fault := some .busFault }).withBiu t

/-- `exec i s` answers a next state `t`, and `t` is `e t` but for the BIU's fields. `e` takes from `t` only the values the spec
leaves undefined, so an undefined flag is unconstrained and every other field is stated. -/
def Runs (i : Instr) (s : State) (e : State → State) : Prop :=
  ∃ t, exec i s = .next t ∧ t = (e t).withBiu t

/-- As `Runs`, for an instruction that ends with `flush()` (20_memory.md R59): the queue is empty and the fetch cursor is at
IP. -/
def Jumps (i : Instr) (s : State) (e : State → State) : Prop :=
  ∃ t, exec i s = .next t ∧ t = (e t).withBiu t ∧ t.queue = [] ∧ t.fetchIp = t.ip

/-- `exec i s` answers a next state in which the unit has stopped with the failure Unimplemented, IP is back at the first
byte and nothing else has changed (60_exceptions.md R203). -/
def Refuses (i : Instr) (s : State) : Prop :=
  ∃ reason, exec i s = .next { s with ip := s.pfx.start, fault := some (.unimplemented reason) }

/-! ## Memory without transactions -/

/-- The byte at `seg:off`. -/
def State.byteAt (s : State) (seg off : Word) : Byte := s.mem.read (phys seg off)

/-- The word at `seg:off`, its high byte at the next offset of the same segment (R47, R48). -/
def State.wordAt (s : State) (seg off : Word) : Word := wordOf (s.byteAt seg (off + 1)) (s.byteAt seg off)

def State.putByte (s : State) (seg off : Word) (v : Byte) : State := { s with mem := s.mem.write (phys seg off) v }

/-- Low byte first (R47). -/
def State.putWord (s : State) (seg off v : Word) : State :=
  (s.putByte seg off (lowByte v)).putByte seg (off + 1) (highByte v)

/-- The state after `push16(v)` (40_data_transfer.md R79). -/
def State.pushed (s : State) (v : Word) : State :=
  (s.setReg16 .sp (s.gpr.sp - 2)).putWord s.sreg.ss (s.gpr.sp - 2) v

/-- The word on top of the stack, the `k`-th one below the first. -/
def State.stackWord (s : State) (k : Nat) : Word := s.wordAt s.sreg.ss (s.gpr.sp + BitVec.ofNat 16 (2 * k))

/-- SP after `k` pops (40_data_transfer.md R79). -/
def State.popped (s : State) (k : Nat) : State := s.setReg16 .sp (s.gpr.sp + BitVec.ofNat 16 (2 * k))

/-! ## Operand views -/

/-- What `read(op)` supplies (30_encoding.md R68). -/
def Place.val {w : Nat} (p : Place w) (s : State) : BitVec w :=
  match p with
  | .r8 r => s.reg8 r
  | .r16 r => s.reg16 r
  | .m8 seg off => s.byteAt seg off
  | .m16 seg off => s.wordAt seg off

/-- The state after `write(op, v)` (30_encoding.md R68). -/
def Place.put {w : Nat} (p : Place w) (v : BitVec w) (s : State) : State :=
  match p, v with
  | .r8 r, v => s.setReg8 r v
  | .r16 r, v => s.setReg16 r v
  | .m8 seg off, v => s.putByte seg off v
  | .m16 seg off, v => s.putWord seg off v

/-- The addresses a write of the place stores to. -/
def Place.addrs {w : Nat} (p : Place w) : List Addr :=
  match p with
  | .r8 _ | .r16 _ => []
  | .m8 seg off => [phys seg off]
  | .m16 seg off => [phys seg off, phys seg (off + 1)]

def Src.val {w : Nat} (x : Src w) (s : State) : BitVec w :=
  match x with
  | .place p => p.val s
  | .imm v => v

/-- `P dst src` at the width, destination and source of the ALU form (41_arithmetic.md R104). -/
def overAlu (f : AluForm) (s : State) (P : (w : Nat) → Place w → Src w → Prop) : Prop :=
  match f with
  | .ebGb e g => P 8 (place8 e s) (.place (.r8 g))
  | .evGv e g => P 16 (place16 e s) (.place (.r16 g))
  | .gbEb g e => P 8 (.r8 g) (.place (place8 e s))
  | .gvEv g e => P 16 (.r16 g) (.place (place16 e s))
  | .alIb i => P 8 (.r8 .al) (.imm i)
  | .axIv i => P 16 (.r16 .ax) (.imm i)
  | .ebIb e i => P 8 (place8 e s) (.imm i)
  | .evIv e i => P 16 (place16 e s) (.imm i)
  | .ebIb82 e i => P 8 (place8 e s) (.imm i)
  | .evIs e i => P 16 (place16 e s) (.imm (i.signExtend 16))

/-- `P a b` at the width and the two operands of TEST (42_logic_shift.md R128). -/
def overTest (f : TestForm) (s : State) (P : (w : Nat) → BitVec w → BitVec w → Prop) : Prop :=
  match f with
  | .ebGb e g => P 8 ((place8 e s).val s) (s.reg8 g)
  | .evGv e g => P 16 ((place16 e s).val s) (s.reg16 g)
  | .alIb i => P 8 (s.reg8 .al) i
  | .axIv i => P 16 (s.reg16 .ax) i
  | .ebIb e i => P 8 ((place8 e s).val s) i
  | .evIv e i => P 16 ((place16 e s).val s) i

/-- `P p` at the width and place of a one-operand form (30_encoding.md R74). -/
def overRm (f : RmForm) (s : State) (P : (w : Nat) → Place w → Prop) : Prop :=
  match f with
  | .b e => P 8 (place8 e s)
  | .w e => P 16 (place16 e s)

/-- `P p n` at the width, place and count of a shift form: 1, or the whole of CL (42_logic_shift.md R130). -/
def overShift (f : ShiftForm) (s : State) (P : (w : Nat) → Place w → Nat → Prop) : Prop :=
  match f with
  | .eb1 e => P 8 (place8 e s) 1
  | .ev1 e => P 16 (place16 e s) 1
  | .ebCl e => P 8 (place8 e s) (s.reg8 .cl).toNat
  | .evCl e => P 16 (place16 e s) (s.reg8 .cl).toNat

/-! ## Results and flags, as numbers -/

/-- Has the low byte of `n` an even number of one bits (00_scope.md R15, PF)? -/
def parityEven (n : Nat) : Bool := ((List.range 8).countP fun i => n.testBit i) % 2 == 0

/-- ZF, SF and PF of a result (00_scope.md R15). -/
def withSzp {w : Nat} (r : BitVec w) (f : Flags) : Flags :=
  { f with zf := decide (r.toNat = 0), sf := decide (r.toInt < 0), pf := parityEven r.toNat }

/-- Is the number outside the signed range of `w` bits? -/
def overflows (w : Nat) (x : Int) : Bool := decide (x < -(2 ^ (w - 1)) ∨ 2 ^ (w - 1) ≤ x)

/-- The flags of the sum `a + c + k`: CF is the carry out, AF the carry out of the low nibble, OF signed overflow. -/
def sumFlags {w : Nat} (a c : BitVec w) (k : Bool) (f : Flags) : Flags :=
  { withSzp (BitVec.ofNat w (a.toNat + c.toNat + k.toNat)) f with
    cf := decide (2 ^ w ≤ a.toNat + c.toNat + k.toNat)
    af := decide (16 ≤ a.toNat % 16 + c.toNat % 16 + k.toNat)
    ofl := overflows w (a.toInt + c.toInt + k.toNat) }

/-- The difference `a - c - k` modulo 2^w. -/
def difference {w : Nat} (a c : BitVec w) (k : Bool) : BitVec w := a - c - BitVec.ofNat w k.toNat

/-- The flags of the difference `a - c - k`: CF is the borrow, AF the borrow of the low nibble, OF signed overflow. -/
def differenceFlags {w : Nat} (a c : BitVec w) (k : Bool) (f : Flags) : Flags :=
  { withSzp (difference a c k) f with
    cf := decide (a.toNat < c.toNat + k.toNat)
    af := decide (a.toNat % 16 < c.toNat % 16 + k.toNat)
    ofl := overflows w (a.toInt - c.toInt - k.toNat) }

/-- The flags of a logic result: CF and OF clear, AF undefined (taken from `u`). -/
def bitwiseFlags {w : Nat} (r : BitVec w) (u f : Flags) : Flags :=
  { withSzp r f with cf := false, ofl := false, af := u.af }

/-- `f` with the six status flags of `u`: all six are undefined (10_state.md R29). -/
def statusFrom (u f : Flags) : Flags :=
  { f with cf := u.cf, pf := u.pf, af := u.af, zf := u.zf, sf := u.sf, ofl := u.ofl }

/-- The new value and CF after `n > 0` one-bit steps (42_logic_shift.md R131 to R137), in closed form. -/
def shiftClosed {w : Nat} (op : ShiftOp) (x : BitVec w) (cf : Bool) (n : Nat) : BitVec w × Bool :=
  match op with
  | .rol => (x.rotateLeft n, (x.rotateLeft n).getLsbD 0)
  | .ror => (x.rotateRight n, (x.rotateRight n).getLsbD (w - 1))
  | .rcl =>
    let y := (x.setWidth (w + 1) ||| BitVec.ofNat (w + 1) (2 ^ w * cf.toNat)).rotateLeft n
    (y.setWidth w, y.getLsbD w)
  | .rcr =>
    let y := (x.setWidth (w + 1) ||| BitVec.ofNat (w + 1) (2 ^ w * cf.toNat)).rotateRight n
    (y.setWidth w, y.getLsbD w)
  | .shl => (x <<< n, decide (n ≤ w) && x.getLsbD (w - n))
  | .shr => (x >>> n, x.getLsbD (n - 1))
  | .sar => (x.sshiftRight n, x.getLsbD (min (n - 1) (w - 1)))

/-- OF after a count of 1 (R131 to R137): for a left step, top bit of the result differs from CF; for ROR and RCR, its two
top bits differ; for SHR, the top bit of the operand; for SAR, 0. -/
def shiftOverflow {w : Nat} (op : ShiftOp) (x r : BitVec w) (cf : Bool) : Bool :=
  match op with
  | .rol | .rcl | .shl => Bool.xor (r.getLsbD (w - 1)) cf
  | .ror | .rcr => Bool.xor (r.getLsbD (w - 1)) (r.getLsbD (w - 2))
  | .shr => x.getLsbD (w - 1)
  | .sar => false

/-- The flags after `n > 0` one-bit steps: OF undefined unless `n = 1`; SHL, SHR and SAR write SF, ZF, PF and leave AF
undefined, the rotates leave these four alone (R130). Undefined flags come from `u`. -/
def shiftFlagsAfter {w : Nat} (op : ShiftOp) (x : BitVec w) (n : Nat) (u f : Flags) : Flags :=
  let p := shiftClosed op x f.cf n
  let g := { f with cf := p.2, ofl := if n = 1 then shiftOverflow op x p.1 p.2 else u.ofl }
  match op with
  | .shl | .shr | .sar => { withSzp p.1 g with af := u.af }
  | .rol | .ror | .rcl | .rcr => g

/-! ## String elements (43_string.md R142 to R146) -/

inductive StrOp where
  | movs | cmps | scas | lods | stos
  deriving DecidableEq, Repr

/-- The instruction of an operation and an element width. -/
def StrOp.instr : StrOp → StrWidth → Instr
  | .movs, .byte => .movsb
  | .movs, .word => .movsw
  | .cmps, .byte => .cmpsb
  | .cmps, .word => .cmpsw
  | .scas, .byte => .scasb
  | .scas, .word => .scasw
  | .lods, .byte => .lodsb
  | .lods, .word => .lodsw
  | .stos, .byte => .stosb
  | .stos, .word => .stosw

/-- Does the repetition look at ZF (R140)? -/
def StrOp.compares : StrOp → Bool
  | .cmps | .scas => true
  | .movs | .lods | .stos => false

/-- SI or DI after one element: up, or down when DF is set, by the element size (R138). -/
def advance (n : StrWidth) (s : State) (v : Word) : Word :=
  if s.flags.df then v - BitVec.ofNat 16 (n.bits / 8) else v + BitVec.ofNat 16 (n.bits / 8)

/-- The effect of one element (R142 to R146). -/
def StrOp.effect (o : StrOp) (n : StrWidth) (s : State) : State :=
  match o with
  | .movs => (((dstElem n s).put ((srcElem n s).val s) s).setReg16 .si (advance n s s.gpr.si)).setReg16 .di
      (advance n s s.gpr.di)
  | .cmps => ((s.setFlags (differenceFlags ((srcElem n s).val s) ((dstElem n s).val s) false s.flags)).setReg16 .si
      (advance n s s.gpr.si)).setReg16 .di (advance n s s.gpr.di)
  | .scas => (s.setFlags (differenceFlags (n.acc.val s) ((dstElem n s).val s) false s.flags)).setReg16 .di
      (advance n s s.gpr.di)
  | .lods => (n.acc.put ((srcElem n s).val s) s).setReg16 .si (advance n s s.gpr.si)
  | .stos => ((dstElem n s).put (n.acc.val s) s).setReg16 .di (advance n s s.gpr.di)

/-- Does the repetition end with this element (R140): CX is 0 now, or a compare found ZF against the prefix? -/
def StrOp.ends (o : StrOp) (k : RepKind) (cx : Word) (zf : Bool) : Prop :=
  cx = 0 ∨ (o.compares = true ∧ ((k = .repe ∧ zf = false) ∨ (k = .repne ∧ zf = true)))

/-! ## Rows of the opcode map -/

/-- 40h + r (41_arithmetic.md R110). -/
def incRow : Reg16 → Instr
  | .ax => .incAx | .cx => .incCx | .dx => .incDx | .bx => .incBx
  | .sp => .incSp | .bp => .incBp | .si => .incSi | .di => .incDi

/-- 48h + r (41_arithmetic.md R111). -/
def decRow : Reg16 → Instr
  | .ax => .decAx | .cx => .decCx | .dx => .decDx | .bx => .decBx
  | .sp => .decSp | .bp => .decBp | .si => .decSi | .di => .decDi

/-- 50h + r (40_data_transfer.md R86). -/
def pushRow : Reg16 → Instr
  | .ax => .pushAx | .cx => .pushCx | .dx => .pushDx | .bx => .pushBx
  | .sp => .pushSp | .bp => .pushBp | .si => .pushSi | .di => .pushDi

/-- 58h + r (40_data_transfer.md R89). -/
def popRow : Reg16 → Instr
  | .ax => .popAx | .cx => .popCx | .dx => .popDx | .bx => .popBx
  | .sp => .popSp | .bp => .popBp | .si => .popSi | .di => .popDi

/-- 06h + 8 * sreg (40_data_transfer.md R87). -/
def pushSegRow : SReg → Instr
  | .es => .pushEs | .cs => .pushCs | .ss => .pushSs | .ds => .pushDs

/-- 07h + 8 * sreg: POP ES, SS, DS, and the undocumented POP CS (40_data_transfer.md R90, 47_undocumented.md R190). -/
def popSegRow : SReg → Instr
  | .es => .popEs | .cs => .popCs | .ss => .popSs | .ds => .popDs

/-- 90h + r: 90h is NOP (40_data_transfer.md R93, 46_processor_control.md R182). -/
def xchgRow : Reg16 → Instr
  | .ax => .nop | .cx => .xchgAxCx | .dx => .xchgAxDx | .bx => .xchgAxBx
  | .sp => .xchgAxSp | .bp => .xchgAxBp | .si => .xchgAxSi | .di => .xchgAxDi

/-- B0h + r (40_data_transfer.md R82). -/
def movByteRow : Reg8 → Byte → Instr
  | .al => .movAlIb | .cl => .movClIb | .dl => .movDlIb | .bl => .movBlIb
  | .ah => .movAhIb | .ch => .movChIb | .dh => .movDhIb | .bh => .movBhIb

/-- B8h + r (40_data_transfer.md R82). -/
def movWordRow : Reg16 → Word → Instr
  | .ax => .movAxIv | .cx => .movCxIv | .dx => .movDxIv | .bx => .movBxIv
  | .sp => .movSpIv | .bp => .movBpIv | .si => .movSiIv | .di => .movDiIv

/-- 70h + cc (44_control_transfer.md R148). -/
def jccRow : Cond → Byte → Instr
  | .o => .jo | .no => .jno | .b => .jb | .ae => .jae | .e => .je | .ne => .jne | .be => .jbe | .a => .ja
  | .s => .js | .ns => .jns | .p => .jp | .np => .jnp | .l => .jl | .ge => .jge | .le => .jle | .g => .jg

/-- 60h + cc (47_undocumented.md R185). -/
def jccAliasRow : Cond → Byte → Instr
  | .o => .joAlias | .no => .jnoAlias | .b => .jbAlias | .ae => .jaeAlias | .e => .jeAlias | .ne => .jneAlias
  | .be => .jbeAlias | .a => .jaAlias | .s => .jsAlias | .ns => .jnsAlias | .p => .jpAlias | .np => .jnpAlias
  | .l => .jlAlias | .ge => .jgeAlias | .le => .jleAlias | .g => .jgAlias

/-- When the jump of condition `c` is taken: the table of 44_control_transfer.md R147. -/
def condTaken (c : Cond) (f : Flags) : Prop :=
  match c with
  | .o => f.ofl = true
  | .no => f.ofl = false
  | .b => f.cf = true
  | .ae => f.cf = false
  | .e => f.zf = true
  | .ne => f.zf = false
  | .be => f.cf = true ∨ f.zf = true
  | .a => f.cf = false ∧ f.zf = false
  | .s => f.sf = true
  | .ns => f.sf = false
  | .p => f.pf = true
  | .np => f.pf = false
  | .l => f.sf ≠ f.ofl
  | .ge => f.sf = f.ofl
  | .le => f.zf = true ∨ f.sf ≠ f.ofl
  | .g => f.zf = false ∧ f.sf = f.ofl

/-- D0h..D3h with the operation's number (42_logic_shift.md R130). -/
def shiftRow : ShiftOp → ShiftForm → Instr
  | .rol => .rol | .ror => .ror | .rcl => .rcl | .rcr => .rcr | .shl => .shl | .shr => .shr | .sar => .sar

/-- Is it a form of class C, refused under both settings (47_undocumented.md R197, R198, R199)? -/
def isClassC : Instr → Bool
  | .fe2 _ | .fe3 _ | .fe4 _ | .fe5 _ | .fe6 _ | .fe7 _ => true
  | .leaReg _ _ | .lesReg _ _ | .ldsReg _ _ | .callFarReg _ | .jmpFarReg _ => true
  | .repMulDiv _ _ => true
  | _ => false

/-- Is it an encoding of class A or B, which UNDOC_POLICY governs (47_undocumented.md R183)? -/
def isUndocumented : Instr → Bool
  | .lockF1 => true
  | .joAlias _ | .jnoAlias _ | .jbAlias _ | .jaeAlias _ | .jeAlias _ | .jneAlias _ | .jbeAlias _ | .jaAlias _ => true
  | .jsAlias _ | .jnsAlias _ | .jpAlias _ | .jnpAlias _ | .jlAlias _ | .jgeAlias _ | .jleAlias _ | .jgAlias _ => true
  | .retIwAlias _ | .retAlias | .retfIwAlias _ | .retfAlias => true
  | .orAlias82 _ _ | .andAlias82 _ _ | .xorAlias82 _ _ | .orAlias83 _ _ | .andAlias83 _ _ | .xorAlias83 _ _ => true
  | .movEwSwAlias _ _ | .movSwEwAlias _ _ | .movCsEw _ | .popCs => true
  | .popEvAlias1 _ | .popEvAlias2 _ | .popEvAlias3 _ | .popEvAlias4 _ | .popEvAlias5 _ | .popEvAlias6 _ => true
  | .popEvAlias7 _ => true
  | .movEbIbAlias1 _ _ | .movEbIbAlias2 _ _ | .movEbIbAlias3 _ _ | .movEbIbAlias4 _ _ | .movEbIbAlias5 _ _ => true
  | .movEbIbAlias6 _ _ | .movEbIbAlias7 _ _ => true
  | .movEvIvAlias1 _ _ | .movEvIvAlias2 _ _ | .movEvIvAlias3 _ _ | .movEvIvAlias4 _ _ | .movEvIvAlias5 _ _ => true
  | .movEvIvAlias6 _ _ | .movEvIvAlias7 _ _ => true
  | .testAlias _ | .pushEvAlias _ | .salc | .setmo _ | .setmoc _ => true
  | _ => false

/-! ## Whole-machine vocabulary -/

/-- Which repeat-prefix context the decoder needs to give this instruction: the four F6h/F7h /4../7 rows none, their refused
form one (47_undocumented.md R199). -/
def repContext (rep : Bool) : Instr → Prop
  | .mul _ | .imul _ | .div _ | .idiv _ => rep = false
  | .repMulDiv _ _ => rep = true
  | _ => True

/-- Is it a transaction with the I/O space (20_memory.md R42)? -/
def BusOp.isPort : BusOp → Bool
  | .portRead8 _ _ | .portRead16 _ _ | .portWrite8 _ _ | .portWrite16 _ _ => true
  | .fetch _ _ | .read _ _ | .write _ _ => false

/-- The two addresses `push16` stores to, after `k` earlier pushes of the instruction. -/
def State.pushAddrs (s : State) (k : Nat) : List Addr :=
  let off := s.gpr.sp - BitVec.ofNat 16 (2 * k + 2)
  [phys s.sreg.ss off, phys s.sreg.ss (off + 1)]

/-- The addresses an ALU form stores to: those of its destination. -/
def storesAlu (f : AluForm) (s : State) : List Addr :=
  match f with
  | .ebGb e _ | .ebIb e _ | .ebIb82 e _ => (place8 e s).addrs
  | .evGv e _ | .evIv e _ | .evIs e _ => (place16 e s).addrs
  | .gbEb _ _ | .gvEv _ _ | .alIb _ | .axIv _ => []

def storesMov (f : MovForm) (s : State) : List Addr :=
  match f with
  | .ebGb e _ => (place8 e s).addrs
  | .evGv e _ => (place16 e s).addrs
  | .obAl off => [phys (s.segOr .ds) off]
  | .ovAx off => [phys (s.segOr .ds) off, phys (s.segOr .ds) (off + 1)]
  | .gbEb _ _ | .gvEv _ _ | .alOb _ | .axOv _ => []

def storesRm (f : RmForm) (s : State) : List Addr :=
  match f with
  | .b e => (place8 e s).addrs
  | .w e => (place16 e s).addrs

def storesXchg (f : XchgForm) (s : State) : List Addr :=
  match f with
  | .b e _ => (place8 e s).addrs
  | .w e _ => (place16 e s).addrs

def storesShift (f : ShiftForm) (s : State) : List Addr :=
  match f with
  | .eb1 e | .ebCl e => (place8 e s).addrs
  | .ev1 e | .evCl e => (place16 e s).addrs

/-- The addresses the instruction may store to, in the state it starts in. -/
def storesOf (i : Instr) (s : State) : List Addr :=
  match i with
  | .mov f => storesMov f s
  | .add f | .adc f | .sub f | .sbb f | .and f | .or f | .xor f => storesAlu f s
  | .movEbIb e _ | .movEbIbAlias1 e _ | .movEbIbAlias2 e _ | .movEbIbAlias3 e _ | .movEbIbAlias4 e _
  | .movEbIbAlias5 e _ | .movEbIbAlias6 e _ | .movEbIbAlias7 e _ => (place8 e s).addrs
  | .movEvIv e _ | .movEvIvAlias1 e _ | .movEvIvAlias2 e _ | .movEvIvAlias3 e _ | .movEvIvAlias4 e _
  | .movEvIvAlias5 e _ | .movEvIvAlias6 e _ | .movEvIvAlias7 e _ => (place16 e s).addrs
  | .orAlias82 e _ | .andAlias82 e _ | .xorAlias82 e _ | .incEb e | .decEb e => (place8 e s).addrs
  | .orAlias83 e _ | .andAlias83 e _ | .xorAlias83 e _ | .incEv e | .decEv e => (place16 e s).addrs
  | .movEwSw e _ | .movEwSwAlias e _ => (place16 e s).addrs
  | .popEv e | .popEvAlias1 e | .popEvAlias2 e | .popEvAlias3 e | .popEvAlias4 e | .popEvAlias5 e | .popEvAlias6 e
  | .popEvAlias7 e => (place16 e s).addrs
  | .xchg f => storesXchg f s
  | .neg f | .not f | .setmo f | .setmoc f => storesRm f s
  | .rol f | .ror f | .rcl f | .rcr f | .shl f | .shr f | .sar f => storesShift f s
  | .pushAx | .pushCx | .pushDx | .pushBx | .pushSp | .pushBp | .pushSi | .pushDi => s.pushAddrs 0
  | .pushEs | .pushCs | .pushSs | .pushDs | .pushEv _ | .pushEvAlias _ | .pushf | .call _ | .callEv _ => s.pushAddrs 0
  | .callFar _ _ | .callFarMp _ => s.pushAddrs 0 ++ s.pushAddrs 1
  | .movsb | .stosb => (dstElem .byte s).addrs
  | .movsw | .stosw => (dstElem .word s).addrs
  | _ => []

/-- Does the instruction have an operand or an effect in the I/O space? Only IN and OUT (20_memory.md R42). -/
def usesPorts : Instr → Bool
  | .inp _ | .outp _ => true
  | _ => false

/-- The instructions that may write CS: far transfers, IRET, and the undocumented MOV CS and POP CS (20_memory.md R59). -/
def writesCs : Instr → Bool
  | .jmpFar _ _ | .jmpFarMp _ | .callFar _ _ | .callFarMp _ | .retf | .retfIw _ | .retfAlias | .retfIwAlias _ => true
  | .iret | .movCsEw _ | .movSwEwAlias .cs _ | .popCs => true
  | _ => false

/-- The offset the queue's first byte comes from: the next instruction's, or the one after a repetition in progress. -/
def State.decodePos (s : State) : Word :=
  match s.rep with
  | some r => r.endIp
  | none => s.ip

/-- A repetition in progress is one of a string instruction, under a repeat prefix, and IP is at its first prefix byte
(10_state.md R24, R35). -/
def State.repOk (s : State) : Bool :=
  match s.rep with
  | some r => r.ins.isString && r.pfx.rep.isSome && decide (s.ip = r.pfx.start)
  | none => true

/-- The queue fits its capacity and the fetch cursor stands after it (10_state.md R31); no internal request and no inhibit
outlives a boundary (60_exceptions.md R210). -/
def State.settled (s : State) : Bool :=
  decide (s.queue.length ≤ Config.queueSize) && decide (s.fetchIp = s.decodePos + BitVec.ofNat 16 s.queue.length)
    && s.internalReq.isNone && !s.inhibit

/-- The machine's invariant between two steps: memory is canonical, no prefixes are left over, a repetition in progress is
well-formed, and unless a terminal failure stopped it, it is settled. -/
def State.Inv (s : State) : Prop :=
  s.mem.wf = true ∧ s.pfx = Prefixes.none ∧ s.repOk = true ∧ (s.fault.isSome = true ∨ s.settled = true)

end Sys2Proof.Machine
end

