-- ==== Sys2Proof/Certificates/Slice0/Obligations.lean ====
section
/-! DEFINITION. The statements about the 8088 core for the provers, each one rule, or a few rules of one shape, of spec/.
`Runs`, `Jumps` and the effects they take are in Sys2Proof/Safety.lean. -/

open Sys2Proof Sys2Proof.Machine

/-! ## Encoding -/

/-- 30_encoding.md R62, R65 to R74: no bit of an encoding is dropped. Every well-formed instruction decodes back from its
bytes, whatever follows them; MUL, IMUL, DIV and IDIV without a repeat prefix before them, their refused form with one. -/
def Obligations.DecodeOfEncode : Prop :=
  ∀ (rep : Bool) (i : Instr) (rest : List Byte), i.wf = true → repContext rep i →
    decode rep (encode i ++ rest) = .ok (i, rest)

/-- 30_encoding.md R71, R73, R74: the decoder never fails on the six bytes of the longest instruction (R62), and an encoding has one
meaning: what decodes to an instruction is that instruction's encoding. -/
def Obligations.EncodeOfDecode : Prop :=
  ∀ (rep : Bool) (bs : List Byte),
    (6 ≤ bs.length → ∃ i rest, decode rep bs = .ok (i, rest))
    ∧ ∀ i rest, decode rep bs = .ok (i, rest) → i.wf = true ∧ repContext rep i ∧ encode i ++ rest = bs

/-- Words written out from 30_encoding.md R65, R66, R73 and R74, one of each family. -/
def Obligations.OpcodeWords : Prop :=
  decode false [0x8B, 0x5E, 0xFE] = .ok (.mov (.gvEv .bx (.mem (.disp8 .bp 0xFE))), [])
  ∧ decode false [0x81, 0x2E, 0x34, 0x12, 0x78, 0x56] = .ok (.sub (.evIv (.mem (.direct 0x1234)) 0x5678), [])
  ∧ decode false [0x83, 0xC8, 0x0F] = .ok (.orAlias83 (.reg .ax) 0x0F, [])
  ∧ decode false [0xD3, 0x39] = .ok (.sar (.evCl (.mem (.base .bxDi))), [])
  ∧ decode false [0x9A, 0x05, 0x01, 0x00, 0xF0] = .ok (.callFar 0x0105 0xF000, [])
  ∧ decode false [0xF6, 0xC3, 0x0F] = .ok (.test (.ebIb (.reg .bl) 0x0F), [])
  ∧ decode true [0xF6, 0xE3] = .ok (.repMulDiv .mul (.b (.reg .bl)), [])
  ∧ decode false [0xCD, 0x21] = .ok (.int 0x21, [])
  ∧ decode false [0xF3, 0xA4] = .ok (.rep, [0xA4])

/-! ## Words, addresses, memory -/

/-- 10_state.md R27, 40_data_transfer.md R99, R100: the flags image bit by bit, `load_flags`, what a round trip through either keeps, and
LAHF and SAHF, which move its low byte. -/
def Obligations.FlagsImage : Prop :=
  (∀ f : Flags, (flagsImage f).toNat = 0xF002 + f.cf.toNat + 4 * f.pf.toNat + 16 * f.af.toNat + 64 * f.zf.toNat
      + 128 * f.sf.toNat + 256 * f.tf.toNat + 512 * f.ifl.toNat + 1024 * f.df.toNat + 2048 * f.ofl.toNat)
  ∧ (∀ f : Flags, loadFlags (flagsImage f) = f)
  ∧ (∀ v : Word, flagsImage (loadFlags v) = (v &&& 0x0FD5) ||| 0xF002)
  ∧ ∀ s : State,
    exec .lahf s = .next (s.setReg8 .ah (BitVec.ofNat 8 ((flagsImage s.flags).toNat % 256)))
    ∧ exec .sahf s = .next (s.setFlags
        { loadFlags (BitVec.ofNat 16 (s.reg8 .ah).toNat) with
          tf := s.flags.tf, ifl := s.flags.ifl, df := s.flags.df, ofl := s.flags.ofl })

/-- 20_memory.md R43. -/
def Obligations.PhysicalAddress : Prop :=
  ∀ seg off : Word, (phys seg off).toNat = (seg.toNat * 16 + off.toNat) % 2 ^ 20

/-- 20_memory.md R47, R48, R52: a word access is two byte transactions, the low byte first, the high byte at the next offset
modulo 2^16 of the same segment; nothing else changes but what fill points change. -/
def Obligations.WordAccess : Prop :=
  ∀ (ph : Phase) (seg off : Word) (s : State), s.accepts →
    (∃ t, load16 ph seg off s = .ok (s.wordAt seg off) t ∧ t = s.withBiu t ∧
      dataOps t.busLog = .read (phys seg (off + 1)) (s.byteAt seg (off + 1)) :: .read (phys seg off) (s.byteAt seg off)
        :: dataOps s.busLog)
    ∧ ∀ v : Word, ∃ t, store16 ph seg off v s = .ok () t ∧ t = (s.putWord seg off v).withBiu t ∧
      dataOps t.busLog = .write (phys seg (off + 1)) (v.extractLsb' 8 8) :: .write (phys seg off) (v.extractLsb' 0 8)
        :: dataOps s.busLog

/-- 20_memory.md R47, R48, R54: a word stored is read back as its two bytes, the low one at the offset and the high one at the next
offset of the segment, and as the word; every other byte stays. Memory keeps its canonical form (the model's,
notes/assumptions/3.md). -/
def Obligations.StoreThenLoad : Prop :=
  ∀ (ph : Phase) (seg off v : Word) (s t : State), s.accepts → s.mem.wf = true → store16 ph seg off v s = .ok () t →
    t.byteAt seg off = v.extractLsb' 0 8 ∧ t.byteAt seg (off + 1) = v.extractLsb' 8 8
    ∧ (∃ u, load16 ph seg off t = .ok v u) ∧ t.mem.wf = true
    ∧ ∀ a, a ≠ phys seg off → a ≠ phys seg (off + 1) → t.mem.read a = s.mem.read a

/-- 20_memory.md R58: a fill point appends some number of bytes up to the free space, the next ones at CS:fetch_ip, and
changes nothing else. -/
def Obligations.FillPoint : Prop :=
  ∀ s : State, s.accepts → s.queue.length ≤ Config.queueSize →
    ∃ k, k + s.queue.length ≤ Config.queueSize ∧ ∃ l,
      fill s = .ok () { s with
        queue := s.queue ++ (List.range k).map fun j => s.byteAt s.sreg.cs (s.fetchIp + BitVec.ofNat 16 j)
        fetchIp := s.fetchIp + BitVec.ofNat 16 k
        busLog := l ++ s.busLog
        draws := s.draws + 1 } ∧ dataOps l = [] ∧ l.length = k

/-- 20_memory.md R57: one `fetch_next_byte()`, and that the bytes of an instruction are consumed by it one at a time, in the
order the decoder sees them. -/
def Obligations.FetchNextByte : Prop :=
  ∀ s : State, s.accepts →
    (∀ b q, s.queue = b :: q → s.peek 0 = b ∧ consume 1 s = .ok () { s with queue := q, ip := s.ip + 1 })
    ∧ (s.queue = [] → s.peek 0 = s.byteAt s.sreg.cs s.fetchIp ∧
        consume 1 s = .ok () { s with
          fetchIp := s.fetchIp + 1
          ip := s.ip + 1
          busLog := .fetch (phys s.sreg.cs s.fetchIp) (s.byteAt s.sreg.cs s.fetchIp) :: s.busLog })
    ∧ ∀ n, consume (n + 1) s = (consume 1 s).bind (fun _ t => consume n t) ∧
        ∀ t, consume 1 s = .ok () t → ∀ j, t.peek j = s.peek (j + 1)

/-! ## The step -/

/-- 30_encoding.md R71, R63: prefix bytes in any number and order, then the instruction, are found with the length of all of
it; a repeat prefix among them is what the decoder is told. -/
def Obligations.PrefixesScanned : Prop :=
  ∀ (s : State) (ps : List Instr) (i : Instr) (rest : List Byte), ps.length ≤ Config.maxPrefixes →
    (∀ p ∈ ps, p.isPrefix = true) → (List.range ps.length).map s.peek = ps.flatMap encode →
    decode (ps.any Instr.isRepPrefix) (s.window ps.length) = .ok (i, rest) → i.isPrefix = false →
    s.scan = some ⟨ps, i, ps.length + (6 - rest.length)⟩

/-- 60_exceptions.md R217: A STEP RUNS THE DECODED INSTRUCTION. The bytes at the program counter (no prefix before them) decode
to `i`; the step fills, consumes them (IP at the offset after them, as 10_state.md R24 says), runs `exec i` and ends with
the boundary. -/
def Obligations.StepRunsInstruction : Prop :=
  ∀ (s : State) (i : Instr) (rest : List Byte), s.fault = none → s.halted = false → s.rep = none → s.accepts →
    decode false (s.window 0) = .ok (i, rest) → i.isPrefix = false →
    ∃ u, u = ({ s with
        ip := s.ip + BitVec.ofNat 16 (6 - rest.length)
        pfx := { Prefixes.none with start := s.ip } }).withBiu u ∧
      ∃ t, exec i u = .next t ∧ step s = .next (boundary s.flags.tf t)

/-- 60_exceptions.md R217, 30_encoding.md R71, 10_state.md R35: with prefixes, the step runs them in order and then the instruction;
while a repetition is in progress it runs the next unit of it, without fetch or decode. -/
def Obligations.StepRunsPrefixedOrRepeated : Prop :=
  ∀ s : State, s.fault = none → s.halted = false → s.accepts →
    (∀ c, s.rep = none → s.scan = some c →
      ∃ u, u = ({ s with
          ip := s.ip + BitVec.ofNat 16 c.length
          pfx := { Prefixes.none with start := s.ip } }).withBiu u ∧
        ∃ t, execAll c u = .next t ∧ step s = .next (boundary s.flags.tf t))
    ∧ ∀ r, s.rep = some r →
      ∃ u, u = ({ s with pfx := r.pfx }).withBiu u ∧
        ∃ t, exec r.ins u = .next t ∧ step s = .next (boundary s.flags.tf t)

/-- 10_state.md R36: a terminal failure is returned by every later step, which does nothing; reset clears it. -/
def Obligations.FaultSticky : Prop :=
  ∀ (s : State) (f : Terminal), s.fault = some f →
    step s = .fault (.stopped f) ∧ ∀ g, (s.resetWith g).fault = none

/-- 46_processor_control.md R177, 60_exceptions.md R217: a halted core idles, changing nothing, until a request wakes it. Then it
takes what the priority order gives (that request removed, its entry run, the chain going on after it) and is no longer
halted; where `inhibit` lets the chain take nothing, the step only clears `inhibit`. -/
def Obligations.HaltedCore : Prop :=
  ∀ s : State, s.fault = none → s.halted = true →
    (s.nmiQ = [] → (s.flags.ifl = false ∨ s.intrQ = []) → step s = .next s)
    ∧ ((s.nmiQ ≠ [] ∨ (s.flags.ifl = true ∧ s.intrQ ≠ [])) →
        (s.accepts → (s.inhibit = false ∨ s.internalReq ≠ none) →
          ∃ v u t, takeRequest s = some (v, u) ∧ intEntry v u = .ok () t ∧ step s = .next (serviceChain t).state
            ∧ (serviceChain t).state.halted = false)
        ∧ (s.inhibit = true → s.internalReq = none → step s = .next { s with inhibit := false }))

/-- 60_exceptions.md R201, R202, R217: how a step can end. It answers a next state, unless a failure was already recorded or (the
model's stuck state, notes/assumptions/12.md) prefixes fill the whole code segment and no fetch the decode loop would ever
make of them is rejected; it never refuses. -/
def Obligations.StepOutcomes : Prop :=
  ∀ s : State, (∃ t, s.fault = none ∧ step s = .next t)
    ∨ (∃ f, s.fault = some f ∧ step s = .fault (.stopped f))
    ∨ (s.fault = none ∧ s.halted = false ∧ s.rep = none ∧ s.scan = none
        ∧ (∀ j, s.rejectedAt (s.busLog.length + j) .memory false (s.fetchAddr j).toNat = false)
        ∧ step s = .fault .endlessPrefixes)

/-! ## Invariants and whole-machine rules -/

/-- The invariant holds right after reset (10_state.md R38), and after `reset()` of a state with canonical memory
(70_reset_and_hazards.md R224). -/
def Obligations.ResetInv : Prop :=
  State.reset.Inv ∧ ∀ (s : State) (g : Gprs), s.mem.wf = true → (s.resetWith g).Inv

/-- Every step keeps the invariant: memory canonical, the queue within its capacity and consistent with the fetch cursor
(10_state.md R31), IP at the first byte of a repetition in progress (R24, R35), no request or inhibit outliving its boundary
(60_exceptions.md R209, R210). -/
def Obligations.StepKeepsInv : Prop :=
  ∀ s t : State, s.Inv → step s = .next t → t.Inv

/-- 20_memory.md R41, R52, R54: memory changes only by a recorded write. Every byte that reads differently after a step was
stored by a write transaction of that step, with the value it now has. -/
def Obligations.MemoryChangesAreWrites : Prop :=
  ∀ s t : State, s.mem.wf = true → step s = .next t →
    ∃ l, t.busLog = l ++ s.busLog ∧
      ∀ a, t.mem.read a ≠ s.mem.read a → BusOp.write a (t.mem.read a) ∈ l

/-- What an instruction stores to: every byte outside the addresses of its memory destination or of its pushes reads as
before, also when the bus rejects an access. The addresses are those of the meanings (30_encoding.md R68, 40_data_transfer.md
R79), in the state the instruction starts in. -/
def Obligations.MemoryFrame : Prop :=
  ∀ (i : Instr) (s t : State), exec i s = .next t → ∀ a, a ∉ storesOf i s → t.mem.read a = s.mem.read a

/-- 20_memory.md R42: only IN and OUT reach the I/O space. -/
def Obligations.PortsOnlyByInOut : Prop :=
  ∀ (i : Instr) (s t : State), exec i s = .next t → usesPorts i = false →
    ∃ l, t.busLog = l ++ s.busLog ∧ ∀ o ∈ l, o.isPort = false

/-- 10_state.md R23, R28, 20_memory.md R59: TF is written by POPF and IRET only, IF by CLI, STI, POPF, IRET, DF by CLD, STD, POPF, IRET, CS by
far transfers, IRET, MOV CS and POP CS (interrupt entry apart, which is no instruction). -/
def Obligations.ControlWriters : Prop :=
  ∀ (i : Instr) (s t : State), exec i s = .next t →
    (t.flags.tf ≠ s.flags.tf → i = .popf ∨ i = .iret)
    ∧ (t.flags.ifl ≠ s.flags.ifl → i = .cli ∨ i = .sti ∨ i = .popf ∨ i = .iret)
    ∧ (t.flags.df ≠ s.flags.df → i = .cld ∨ i = .std ∨ i = .popf ∨ i = .iret)
    ∧ (t.sreg.cs ≠ s.sreg.cs → writesCs i = true)

/-- 10_state.md R32, R33, R35, 60_exceptions.md R204: no instruction touches a pending external request or the single-step latch;
only HLT halts; only INT, INT3, INTO, DIV, IDIV and AAM raise a request; only string instructions start or end a repetition.
That no instruction changes the parameters, the TEST input or what the bus rejects is the model's choice
(notes/assumptions/1.md, notes/assumptions/4.md). -/
def Obligations.ControlStateFrame : Prop :=
  ∀ (i : Instr) (s t : State), exec i s = .next t →
    t.nmiQ = s.nmiQ ∧ t.intrQ = s.intrQ ∧ t.ssLatch = s.ssLatch
    ∧ t.params = s.params ∧ t.testAsserted = s.testAsserted ∧ t.rejects = s.rejects
    ∧ (t.halted ≠ s.halted → i = .hlt)
    ∧ (t.rep ≠ s.rep → i.isString = true)
    ∧ (t.internalReq ≠ s.internalReq →
        (∃ n, i = .int n) ∨ i = .int3 ∨ i = .into ∨ (∃ f, i = .div f) ∨ (∃ f, i = .idiv f) ∨ ∃ b, i = .aam b)

/-- 60_exceptions.md R210: the fixed priority order, and that the request taken is the only one removed. -/
def Obligations.ServicePriority : Prop :=
  ∀ s : State,
    (∀ v, s.internalReq = some v → takeRequest s = some (v, { s with internalReq := none }))
    ∧ (s.internalReq = none → s.inhibit = true → takeRequest s = none)
    ∧ (s.internalReq = none → s.inhibit = false →
        (∀ v q, s.nmiQ = v :: q → takeRequest s = some (v, { s with nmiQ := q }))
        ∧ (s.nmiQ = [] → s.flags.ifl = true → ∀ v q, s.intrQ = v :: q →
            takeRequest s = some (v, { s with intrQ := q }))
        ∧ (s.nmiQ = [] → (s.flags.ifl = false ∨ s.intrQ = []) →
            takeRequest s = if s.ssLatch then some (1, { s with ssLatch := false }) else none))

/-- 60_exceptions.md R210: the chain runs until nothing that may be taken is pending, and clears `inhibit`. -/
def Obligations.ServiceChainDrains : Prop :=
  ∀ s : State, s.accepts → ∃ t, serviceChain s = .ok () t ∧ t.inhibit = false ∧ t.internalReq = none
    ∧ (s.inhibit = false → takeRequest t = none)

/-- 60_exceptions.md R212: taking an interrupt. The flags image, CS and the return address are pushed in this order, IF and TF
cleared, IP and CS loaded from entry `v` of the vector table (after the pushes, which may have written it), the queue
flushed, a repetition ended and the halted state left; nothing else changes, and the data transactions are these ten. The
return address is IP, or during a repetition that of 43_string.md R141. -/
def Obligations.InterruptEntry : Prop :=
  ∀ (v : Byte) (s : State), s.accepts →
    let off : Word := BitVec.ofNat 16 (4 * v.toNat)
    let ret : Word := match s.rep, s.params.repResume with
      | none, _ => s.ip
      | some r, .allPrefixes => r.pfx.start
      | some r, .lastPrefixOnly => r.pfx.start + BitVec.ofNat 16 (r.pfx.count - 1)
    let p := ((s.pushed (flagsImage s.flags)).pushed s.sreg.cs).pushed ret
    let stk (k : Nat) : Addr := phys s.sreg.ss (s.gpr.sp - BitVec.ofNat 16 k)
    ∃ t, intEntry v s = .ok () t
      ∧ t = ({ p with
          ip := p.wordAt 0 off
          sreg := { p.sreg with cs := p.wordAt 0 (off + 2) }
          flags := { s.flags with ifl := false, tf := false }
          rep := none
          halted := false }).withBiu t
      ∧ t.queue = [] ∧ t.fetchIp = t.ip
      ∧ dataOps t.busLog =
          [.read (phys 0 (off + 3)) (p.byteAt 0 (off + 3)), .read (phys 0 (off + 2)) (p.byteAt 0 (off + 2)),
           .read (phys 0 (off + 1)) (p.byteAt 0 (off + 1)), .read (phys 0 off) (p.byteAt 0 off),
           .write (stk 5) (highByte ret), .write (stk 6) (lowByte ret),
           .write (stk 3) (highByte s.sreg.cs), .write (stk 4) (lowByte s.sreg.cs),
           .write (stk 1) (highByte (flagsImage s.flags)), .write (stk 2) (lowByte (flagsImage s.flags))]
          ++ dataOps s.busLog

/-- 60_exceptions.md R214: "the return instruction restores the original instruction pointer and flags exactly". IRET after an
entry restores IP (the return address), CS, SP and every flag, and leaves the other registers alone. -/
def Obligations.EntryThenIret : Prop :=
  ∀ (v : Byte) (s t : State), s.accepts → s.mem.wf = true → intEntry v s = .ok () t →
    ∃ u, exec .iret t = .next u ∧ u.ip = s.returnAddress ∧ u.sreg = s.sreg ∧ u.flags = s.flags ∧ u.gpr = s.gpr
      ∧ u.queue = [] ∧ u.fetchIp = u.ip

/-- 60_exceptions.md R207: a unit that began with TF = 1 and left nothing of higher priority pending ends with the single-step
trap, vector 1; one that began with TF = 0 sets no latch. -/
def Obligations.SingleStepTrap : Prop :=
  ∀ t : State, t.fault = none → t.accepts → t.internalReq = none → t.nmiQ = [] →
    (t.flags.ifl = false ∨ t.intrQ = []) →
    (t.inhibit = false → ∃ u, intEntry 1 { t with ssLatch := false, pfx := Prefixes.none } = .ok () u ∧
      boundary true t = { u with inhibit := false })
    ∧ (t.inhibit = true → boundary true t = { t with ssLatch := true, inhibit := false, pfx := Prefixes.none })
    ∧ (t.inhibit = false → t.ssLatch = false → boundary false t = { t with pfx := Prefixes.none })

/-- 60_exceptions.md R202, 92_eei_decisions.md D47: a rejected access stops the unit at once with BusFault; effects already made stay.
So for every primitive: a memory read or write in either phase, a port read or write of either width; a rejected fetch, in a
fill or in decoding, after the fetches before it; a step whose next instruction has a rejected fetch among its bytes, also
where they are prefixes without end; an interrupt entry whose first push is rejected (SP is down, nothing stored). A word
store whose second byte alone is rejected has stored its first; the boundary then services nothing. Which call is rejected
is the model's datum (notes/assumptions/4.md), and so is the order of SP and store (notes/assumptions/18.md). -/
def Obligations.RejectedAccess : Prop :=
  ∀ s : State,
    (∀ ph (a : Addr), s.rejectsNext .memory false a.toNat → StopsAt (memRead ph a s) s)
    ∧ (∀ ph (a : Addr) v, s.rejectsNext .memory true a.toNat → StopsAt (memWrite ph a v s) s)
    ∧ (∀ p : Word, s.rejectsNext .io false p.toNat → StopsAt (ioRead8 p s) s ∧ StopsAt (ioRead16 p s) s)
    ∧ (∀ p : Word, s.rejectsNext .io true p.toNat →
        (∀ v, StopsAt (ioWrite8 p v s) s) ∧ ∀ v, StopsAt (ioWrite16 p v s) s)
    ∧ (∀ j, s.firstRejectedFetch j →
        (fill s = .stop ((s.drew 1).appended j).busFault ∨ ∃ k, k ≤ j ∧ fill s = .ok () ((s.drew 1).appended k))
        ∧ (∀ n, s.queue.length + j < n → consume n s =
            .stop { (s.appended j).busFault with queue := [], ip := s.ip + BitVec.ofNat 16 (s.queue.length + j) })
        ∧ (s.fault = none → s.halted = false → s.rep = none →
            (∀ c, s.scan = some c → s.queue.length + j < c.length) →
            ∃ t, step s = .next t ∧
              t = ({ s with ip := t.ip, fault := some .busFault, pfx := Prefixes.none }).withBiu t))
    ∧ (∀ off, s.rejectsNext .memory false (phys (s.segOr .ds) off).toNat →
        Runs (.mov (.alOb off)) s fun _ => { s with fault := some .busFault })
    ∧ (∀ off, (∀ n sp wr a, s.rejectedAt n sp wr a = true ↔
          sp = .memory ∧ wr = true ∧ a = (phys (s.segOr .ds) (off + 1)).toNat) →
        Runs (.mov (.ovAx off)) s fun _ =>
          { s.putByte (s.segOr .ds) off (s.reg8 .al) with fault := some .busFault })
    ∧ (∀ v, s.rejectsNext .memory true (phys s.sreg.ss (s.gpr.sp - 2)).toNat →
        StopsAt (intEntry v s) (s.setReg16 .sp (s.gpr.sp - 2)))
    ∧ ∀ tf, s.fault = some .busFault → boundary tf s = { s with pfx := Prefixes.none }

/-! ## Host operations -/

/-- 10_state.md R38, 70_reset_and_hazards.md R224, 60_exceptions.md R206: reset, with the general registers at the draw RESET_GPR and memory left
as it is; and `raise_request`, which appends to its queue and changes nothing else. -/
def Obligations.ResetAndRequests : Prop :=
  (∀ (s : State) (g : Gprs),
    let t := s.resetWith g
    t.sreg.cs = 0xFFFF ∧ t.ip = 0 ∧ t.sreg.ds = 0 ∧ t.sreg.ss = 0 ∧ t.sreg.es = 0 ∧ flagsImage t.flags = 0xF002
    ∧ t.queue = [] ∧ t.fetchIp = 0 ∧ t.halted = false ∧ t.internalReq = none ∧ t.nmiQ = [] ∧ t.intrQ = []
    ∧ t.ssLatch = false ∧ t.inhibit = false ∧ t.rep = none ∧ t.fault = none
    ∧ t.gpr = g ∧ t.mem = s.mem ∧ t.busLog = s.busLog
    ∧ t.fetchAddr 0 = 0xFFFF0)
  ∧ ∀ (s : State) (v : Byte),
    s.raiseRequest v false = { s with nmiQ := s.nmiQ ++ [v] } ∧ s.raiseRequest v true = { s with intrQ := s.intrQ ++ [v] }

/-- 60_exceptions.md R218: `step_n(k)` counts at most `k` units and ends early only with a terminal failure, an idle core, or the
stuck state of notes/assumptions/12.md. -/
def Obligations.StepNCount : Prop :=
  ∀ (k : Nat) (s : State), (stepN k s).count ≤ k ∧
    ((stepN k s).count < k → (stepN k s).fault ≠ none
      ∨ ((stepN k s).state.halted = true ∧ (stepN k s).state.wakes = false)
      ∨ step (stepN k s).state = .fault .endlessPrefixes)

/-! ## Data transfer -/

/-- 40_data_transfer.md R80 to R83, 47_undocumented.md R192: the eight forms of MOV between operands, and MOV of an immediate. `grpC6` and
`grpC7` give the rows C6h and C7h: /0 is documented, /1../7 run so under UNDOC_POLICY = emulate. -/
def Obligations.MovForms : Prop :=
  ∀ s : State, s.accepts →
    (∀ e g, Runs (.mov (.ebGb e g)) s fun _ => (place8 e s).put (s.reg8 g) s)
    ∧ (∀ e g, Runs (.mov (.evGv e g)) s fun _ => (place16 e s).put (s.reg16 g) s)
    ∧ (∀ g e, Runs (.mov (.gbEb g e)) s fun _ => s.setReg8 g ((place8 e s).val s))
    ∧ (∀ g e, Runs (.mov (.gvEv g e)) s fun _ => s.setReg16 g ((place16 e s).val s))
    ∧ (∀ off, Runs (.mov (.alOb off)) s fun _ => s.setReg8 .al (s.byteAt (s.segOr .ds) off))
    ∧ (∀ off, Runs (.mov (.axOv off)) s fun _ => s.setReg16 .ax (s.wordAt (s.segOr .ds) off))
    ∧ (∀ off, Runs (.mov (.obAl off)) s fun _ => s.putByte (s.segOr .ds) off (s.reg8 .al))
    ∧ (∀ off, Runs (.mov (.ovAx off)) s fun _ => s.putWord (s.segOr .ds) off (s.reg16 .ax))
    ∧ (∀ r i, Runs (movByteRow r i) s fun _ => s.setReg8 r i)
    ∧ (∀ r i, Runs (movWordRow r i) s fun _ => s.setReg16 r i)
    ∧ ∀ reg : BitVec 3, (reg = 0 ∨ s.params.undoc = .emulate) →
        (∀ e i, Runs (grpC6 reg e i) s fun _ => (place8 e s).put i s)
        ∧ ∀ e i, Runs (grpC7 reg e i) s fun _ => (place16 e s).put i s

/-- 40_data_transfer.md R84, R85, 10_state.md R34, 47_undocumented.md R188, R189: MOV from and to a segment register. A load sets
`inhibit` when SEG_LOAD_INHIBIT; a load of CS also flushes. -/
def Obligations.MovSegment : Prop :=
  ∀ s : State, s.accepts →
    let loaded (r : SReg) (e : Rm16) : State :=
      { s.setSeg r ((place16 e s).val s) with inhibit := s.inhibit || s.params.segLoadInhibit }
    (∀ e r, Runs (.movEwSw e r) s fun _ => (place16 e s).put (s.seg r) s)
    ∧ (∀ e, Runs (.movEsEw e) s fun _ => loaded .es e)
    ∧ (∀ e, Runs (.movSsEw e) s fun _ => loaded .ss e)
    ∧ (∀ e, Runs (.movDsEw e) s fun _ => loaded .ds e)
    ∧ (s.params.undoc = .emulate →
        (∀ e r, Runs (.movEwSwAlias e r) s fun _ => (place16 e s).put (s.seg r) s)
        ∧ (∀ r e, r ≠ .cs → Runs (.movSwEwAlias r e) s fun _ => loaded r e)
        ∧ (∀ e, Jumps (.movSwEwAlias .cs e) s fun _ => loaded .cs e)
        ∧ ∀ e, Jumps (.movCsEw e) s fun _ => loaded .cs e)

/-- 40_data_transfer.md R79, R86, R87, R88, R101, 47_undocumented.md R194: PUSH. SP goes down by 2, then the word is stored at SS:SP;
PUSH SP pushes the decremented SP; a memory operand is read before SP changes; PUSHF pushes the flags image. -/
def Obligations.PushForms : Prop :=
  ∀ s : State, s.accepts →
    let value (r : Reg16) : Word := if r = .sp then s.gpr.sp - 2 else s.reg16 r
    (∀ r, Runs (pushRow r) s fun _ => s.pushed (value r))
    ∧ (∀ r, Runs (pushSegRow r) s fun _ => s.pushed (s.seg r))
    ∧ (∀ r, Runs (.pushEv (.reg r)) s fun _ => s.pushed (value r))
    ∧ (∀ m, Runs (.pushEv (.mem m)) s fun _ => s.pushed (s.wordAt (memSeg m s) (effAddr m s)))
    ∧ Runs .pushf s (fun _ => s.pushed (flagsImage s.flags))
    ∧ (s.params.undoc = .emulate →
        (∀ r, Runs (.pushEvAlias (.reg r)) s fun _ => s.pushed (value r))
        ∧ ∀ m, Runs (.pushEvAlias (.mem m)) s fun _ => s.pushed (s.wordAt (memSeg m s) (effAddr m s)))

/-- 40_data_transfer.md R79, R89, R90, R91, R102, 47_undocumented.md R190, R191: POP. The word at SS:SP goes to the destination and SP up
by 2; POP SP leaves the popped word; a memory destination is located before SP changes; a segment register sets `inhibit`
when SEG_LOAD_INHIBIT; POPF loads the nine flags. `grp8F` gives the row 8Fh. -/
def Obligations.PopForms : Prop :=
  ∀ s : State, s.accepts →
    let v := s.stackWord 0
    let loaded (r : SReg) : State :=
      { (s.popped 1).setSeg r v with inhibit := s.inhibit || s.params.segLoadInhibit }
    (∀ r, Runs (popRow r) s fun _ => (s.popped 1).setReg16 r v)
    ∧ (∀ r, r ≠ .cs → Runs (popSegRow r) s fun _ => loaded r)
    ∧ Runs .popf s (fun _ => (s.popped 1).setFlags (loadFlags v))
    ∧ (s.params.undoc = .emulate → Jumps .popCs s fun _ => loaded .cs)
    ∧ ∀ reg : BitVec 3, (reg = 0 ∨ s.params.undoc = .emulate) →
        ∀ e, Runs (grp8F reg e) s fun _ => (place16 e s).put v (s.popped 1)

/-- 40_data_transfer.md R92, R93, 46_processor_control.md R182: XCHG; 90h, XCHG AX,AX, is NOP. -/
def Obligations.Exchange : Prop :=
  ∀ s : State,
    (∀ r, Runs (xchgRow r) s fun _ => (s.setReg16 .ax (s.reg16 r)).setReg16 r s.gpr.ax)
    ∧ (s.accepts →
        (∀ e g, Runs (.xchg (.b e g)) s fun _ => ((place8 e s).put (s.reg8 g) s).setReg8 g ((place8 e s).val s))
        ∧ ∀ e g, Runs (.xchg (.w e g)) s fun _ => ((place16 e s).put (s.reg16 g) s).setReg16 g ((place16 e s).val s))

/-- 40_data_transfer.md R94, R97, R98: XLAT, LEA, LES and LDS. -/
def Obligations.TableAndPointerLoads : Prop :=
  ∀ s : State, s.accepts →
    Runs .xlat s (fun _ => s.setReg8 .al (s.byteAt (s.segOr .ds) (s.gpr.bx + BitVec.ofNat 16 (s.reg8 .al).toNat)))
    ∧ (∀ g m, Runs (.lea g m) s fun _ => s.setReg16 g (effAddr m s))
    ∧ (∀ g m, Runs (.les g m) s fun _ =>
        { s.setReg16 g (s.wordAt (memSeg m s) (effAddr m s)) with
          sreg := { s.sreg with es := s.wordAt (memSeg m s) (effAddr m s + 2) } })
    ∧ ∀ g m, Runs (.lds g m) s fun _ =>
        { s.setReg16 g (s.wordAt (memSeg m s) (effAddr m s)) with
          sreg := { s.sreg with ds := s.wordAt (memSeg m s) (effAddr m s + 2) } }

/-- 40_data_transfer.md R95, R96, 20_memory.md R42, R52: IN and OUT. The one data transaction is one port access of the form's width,
after any fill; IN's value is the collaborator's (any value), and it is what the accumulator holds. -/
def Obligations.PortTransfers : Prop :=
  ∀ s : State, s.accepts →
    let reads8 (f : PortForm) (p : Word) : Prop :=
      ∃ t, exec (.inp f) s = .next t ∧ t = (s.setReg8 .al (t.reg8 .al)).withBiu t ∧
        s.accessed t (.portRead8 p (t.reg8 .al))
    let reads16 (f : PortForm) (p : Word) : Prop :=
      ∃ t, exec (.inp f) s = .next t ∧ t = (s.setReg16 .ax t.gpr.ax).withBiu t ∧ s.accessed t (.portRead16 p t.gpr.ax)
    let writes (f : PortForm) (o : BusOp) : Prop :=
      ∃ t, exec (.outp f) s = .next t ∧ t = s.withBiu t ∧ s.accessed t o
    (∀ p : Byte, reads8 (.immB p) (p.setWidth 16) ∧ reads16 (.immW p) (p.setWidth 16)
      ∧ writes (.immB p) (.portWrite8 (p.setWidth 16) (s.reg8 .al))
      ∧ writes (.immW p) (.portWrite16 (p.setWidth 16) s.gpr.ax))
    ∧ reads8 .dxB s.gpr.dx ∧ reads16 .dxW s.gpr.dx
    ∧ writes .dxB (.portWrite8 s.gpr.dx (s.reg8 .al)) ∧ writes .dxW (.portWrite16 s.gpr.dx s.gpr.ax)

/-! ## Arithmetic -/

/-- 41_arithmetic.md R104, R105, R106: ADD and ADC over the ten operand forms. -/
def Obligations.AddForms : Prop :=
  ∀ (f : AluForm) (s : State), s.accepts →
    overAlu f s fun w dst src =>
      let a := dst.val s
      let c := src.val s
      Runs (.add f) s (fun _ => (dst.put (a + c) s).setFlags (sumFlags a c false s.flags))
      ∧ Runs (.adc f) s (fun _ =>
          (dst.put (BitVec.ofNat w (a.toNat + c.toNat + s.flags.cf.toNat)) s).setFlags (sumFlags a c s.flags.cf s.flags))

/-- 41_arithmetic.md R104, R107, R108, R109: SUB, SBB and CMP over the ten operand forms; CMP writes no operand. -/
def Obligations.SubtractForms : Prop :=
  ∀ (f : AluForm) (s : State), s.accepts →
    overAlu f s fun _ dst src =>
      let a := dst.val s
      let c := src.val s
      Runs (.sub f) s (fun _ => (dst.put (a - c) s).setFlags (differenceFlags a c false s.flags))
      ∧ Runs (.sbb f) s (fun _ =>
          (dst.put (difference a c s.flags.cf) s).setFlags (differenceFlags a c s.flags.cf s.flags))
      ∧ Runs (.cmp f) s (fun _ => s.setFlags (differenceFlags a c false s.flags))

/-- 41_arithmetic.md R110, R111: INC and DEC, register and register/memory forms; CF keeps its value. -/
def Obligations.IncrementDecrement : Prop :=
  ∀ s : State, s.accepts →
    let inc {w : Nat} (p : Place w) : State :=
      (p.put (p.val s + 1) s).setFlags { sumFlags (p.val s) 1 false s.flags with cf := s.flags.cf }
    let dec {w : Nat} (p : Place w) : State :=
      (p.put (p.val s - 1) s).setFlags { differenceFlags (p.val s) 1 false s.flags with cf := s.flags.cf }
    (∀ r, Runs (incRow r) s fun _ => inc (.r16 r))
    ∧ (∀ e, Runs (.incEb e) s fun _ => inc (place8 e s))
    ∧ (∀ e, Runs (.incEv e) s fun _ => inc (place16 e s))
    ∧ (∀ r, Runs (decRow r) s fun _ => dec (.r16 r))
    ∧ (∀ e, Runs (.decEb e) s fun _ => dec (place8 e s))
    ∧ ∀ e, Runs (.decEv e) s fun _ => dec (place16 e s)

/-- 41_arithmetic.md R112, 42_logic_shift.md R129: NEG is `0 - a` with its flags, NOT the complement with none. -/
def Obligations.NegateComplement : Prop :=
  ∀ (f : RmForm) (s : State), s.accepts →
    overRm f s fun w p =>
      Runs (.neg f) s (fun _ => (p.put (0 - p.val s) s).setFlags (differenceFlags 0 (p.val s) false s.flags))
      ∧ Runs (.not f) s (fun _ => p.put (BitVec.ofNat w (2 ^ w - 1 - (p.val s).toNat)) s)

/-- 41_arithmetic.md R113, R114: MUL and IMUL. The double-width product; CF and OF say whether its high half carries anything; SF,
ZF, AF and PF are undefined. -/
def Obligations.MultiplyForms : Prop :=
  ∀ s : State, s.accepts →
    let flags (t : State) (big : Bool) : Flags := { statusFrom t.flags s.flags with cf := big, ofl := big }
    let wide (p : BitVec 32) : State := (s.setReg16 .ax (p.extractLsb' 0 16)).setReg16 .dx (p.extractLsb' 16 16)
    (∀ e, let p := (s.reg8 .al).toNat * ((place8 e s).val s).toNat
      Runs (.mul (.b e)) s fun t => (s.setReg16 .ax (BitVec.ofNat 16 p)).setFlags (flags t (decide (2 ^ 8 ≤ p))))
    ∧ (∀ e, let p := (s.reg16 .ax).toNat * ((place16 e s).val s).toNat
      Runs (.mul (.w e)) s fun t => (wide (BitVec.ofNat 32 p)).setFlags (flags t (decide (2 ^ 16 ≤ p))))
    ∧ (∀ e, let p := (s.reg8 .al).toInt * ((place8 e s).val s).toInt
      Runs (.imul (.b e)) s fun t => (s.setReg16 .ax (BitVec.ofInt 16 p)).setFlags (flags t (overflows 8 p)))
    ∧ ∀ e, let p := (s.reg16 .ax).toInt * ((place16 e s).val s).toInt
      Runs (.imul (.w e)) s fun t => (wide (BitVec.ofInt 32 p)).setFlags (flags t (overflows 16 p))

/-- 41_arithmetic.md R115, R116: DIV and IDIV. The quotient (of IDIV truncated toward zero) and the remainder when the quotient fits, for
IDIV within ±(2^(w-1) - 1); otherwise the divide error, vector 0, with no register written; the six status flags are
undefined either way. -/
def Obligations.DivideForms : Prop :=
  ∀ s : State, s.accepts →
    (∀ e, let n := (s.reg16 .ax).toNat
      let d := ((place8 e s).val s).toNat
      Runs (.div (.b e)) s fun t =>
        let u := s.setFlags (statusFrom t.flags s.flags)
        if d = 0 ∨ 2 ^ 8 ≤ n / d then { u with internalReq := some 0 }
        else (u.setReg8 .al (BitVec.ofNat 8 (n / d))).setReg8 .ah (BitVec.ofNat 8 (n % d)))
    ∧ (∀ e, let n := (s.reg16 .dx).toNat * 2 ^ 16 + (s.reg16 .ax).toNat
      let d := ((place16 e s).val s).toNat
      Runs (.div (.w e)) s fun t =>
        let u := s.setFlags (statusFrom t.flags s.flags)
        if d = 0 ∨ 2 ^ 16 ≤ n / d then { u with internalReq := some 0 }
        else (u.setReg16 .ax (BitVec.ofNat 16 (n / d))).setReg16 .dx (BitVec.ofNat 16 (n % d)))
    ∧ (∀ e, let n := (s.reg16 .ax).toInt
      let d := ((place8 e s).val s).toInt
      Runs (.idiv (.b e)) s fun t =>
        let u := s.setFlags (statusFrom t.flags s.flags)
        if d = 0 ∨ 127 < (n.tdiv d).natAbs then { u with internalReq := some 0 }
        else (u.setReg8 .al (BitVec.ofInt 8 (n.tdiv d))).setReg8 .ah (BitVec.ofInt 8 (n.tmod d)))
    ∧ ∀ e, let n := (s.gpr.dx ++ s.gpr.ax : BitVec 32).toInt
      let d := ((place16 e s).val s).toInt
      Runs (.idiv (.w e)) s fun t =>
        let u := s.setFlags (statusFrom t.flags s.flags)
        if d = 0 ∨ 32767 < (n.tdiv d).natAbs then { u with internalReq := some 0 }
        else (u.setReg16 .ax (BitVec.ofInt 16 (n.tdiv d))).setReg16 .dx (BitVec.ofInt 16 (n.tmod d))

/-- 41_arithmetic.md R117, R118: DAA and DAS. With DAA_NONBCD = algorithm, the adjustments by 6 and 60h on their conditions; SF, ZF,
PF from AL, OF undefined. With DAA_NONBCD = any they complete too, and change only AL and the status flags. -/
def Obligations.DecimalAdjust : Prop :=
  ∀ s : State,
    let al := (s.reg8 .al).toNat
    let low : Bool := decide (9 < al % 16) || s.flags.af
    let high : Bool := decide (0x99 < al) || s.flags.cf
    let step : Nat := (if low then 6 else 0) + (if high then 0x60 else 0)
    (s.params.daaNonBcd = .algorithm →
      Runs .daa s (fun t =>
        let r : Byte := BitVec.ofNat 8 (al + step)
        (s.setReg8 .al r).setFlags { withSzp r s.flags with cf := high, af := low, ofl := t.flags.ofl })
      ∧ Runs .das s (fun t =>
        let r : Byte := BitVec.ofNat 8 (al + 256 - step)
        (s.setReg8 .al r).setFlags
          { withSzp r s.flags with cf := high || (low && decide (al < 6)), af := low, ofl := t.flags.ofl }))
    ∧ Runs .daa s (fun t => (s.setReg8 .al (t.reg8 .al)).setFlags (withSzp (t.reg8 .al) (statusFrom t.flags s.flags)))
    ∧ Runs .das s (fun t => (s.setReg8 .al (t.reg8 .al)).setFlags (withSzp (t.reg8 .al) (statusFrom t.flags s.flags)))

/-- 41_arithmetic.md R105, R117: what DAA is for. After an addition of two packed-BCD bytes of values `x` and `y`, DAA leaves the
packed-BCD byte of their sum modulo 100, and CF says whether it passed 99, whatever DAA_NONBCD is. -/
def Obligations.DecimalAddition : Prop :=
  ∀ (x y : Nat) (s u : State), x < 100 → y < 100 →
    s.reg8 .al = BitVec.ofNat 8 (x / 10 * 16 + x % 10) →
    exec (.add (.alIb (BitVec.ofNat 8 (y / 10 * 16 + y % 10)))) s = .next u →
    ∃ t, exec .daa u = .next t ∧ t.reg8 .al = BitVec.ofNat 8 ((x + y) % 100 / 10 * 16 + (x + y) % 10) ∧
      t.flags.cf = decide (100 ≤ x + y)

/-- 41_arithmetic.md R119, R120: AAA and AAS; OF, SF, ZF and PF are undefined. -/
def Obligations.AsciiAdjust : Prop :=
  ∀ s : State,
    let al := (s.reg8 .al).toNat
    let adjust : Bool := decide (9 < al % 16) || s.flags.af
    let flags (t : State) : Flags := { statusFrom t.flags s.flags with af := adjust, cf := adjust }
    Runs .aaa s (fun t =>
      (if adjust then (s.setReg8 .al (BitVec.ofNat 8 ((al + 6) % 16))).setReg8 .ah (s.reg8 .ah + 1)
        else s.setReg8 .al (BitVec.ofNat 8 (al % 16))).setFlags (flags t))
    ∧ Runs .aas s (fun t =>
      (if adjust then (s.setReg8 .al (BitVec.ofNat 8 ((al + 10) % 16))).setReg8 .ah (s.reg8 .ah - 1)
        else s.setReg8 .al (BitVec.ofNat 8 (al % 16))).setFlags (flags t))

/-- 41_arithmetic.md R121 to R124: AAM and AAD with any base (a base of 0 makes AAM raise the divide error, vector 0), CBW and CWD. -/
def Obligations.RadixAdjustAndExtend : Prop :=
  ∀ (b : Byte) (s : State),
    let al := (s.reg8 .al).toNat
    let ah := (s.reg8 .ah).toNat
    let flags (t : State) (r : Byte) : Flags :=
      { withSzp r s.flags with ofl := t.flags.ofl, af := t.flags.af, cf := t.flags.cf }
    (b = 0 → Runs (.aam b) s fun t =>
      { s.setFlags (statusFrom t.flags s.flags) with internalReq := some 0 })
    ∧ (b ≠ 0 → Runs (.aam b) s fun t =>
      ((s.setReg8 .ah (BitVec.ofNat 8 (al / b.toNat))).setReg8 .al (BitVec.ofNat 8 (al % b.toNat))).setFlags
        (flags t (BitVec.ofNat 8 (al % b.toNat))))
    ∧ (Runs (.aad b) s fun t =>
      ((s.setReg8 .ah 0).setReg8 .al (BitVec.ofNat 8 (ah * b.toNat + al))).setFlags
        (flags t (BitVec.ofNat 8 (ah * b.toNat + al))))
    ∧ exec .cbw s = .next (s.setReg16 .ax (BitVec.ofInt 16 (s.reg8 .al).toInt))
    ∧ exec .cwd s = .next (s.setReg16 .dx (BitVec.ofInt 16 (s.gpr.ax.toInt / 2 ^ 16)))

/-! ## Logic and shifts -/

/-- 42_logic_shift.md R125 to R128, 47_undocumented.md R187, R193: AND, OR, XOR and TEST, with their aliases under UNDOC_POLICY = emulate. CF
and OF are cleared, AF is undefined; TEST writes the flags of AND and no operand. -/
def Obligations.LogicForms : Prop :=
  ∀ s : State, s.accepts →
    let become (t : State) {w : Nat} (p : Place w) (r : BitVec w) : State :=
      (p.put r s).setFlags (bitwiseFlags r t.flags s.flags)
    (∀ f : AluForm, overAlu f s fun _ dst src =>
      Runs (.and f) s (fun t => become t dst (dst.val s &&& src.val s))
      ∧ Runs (.or f) s (fun t => become t dst (dst.val s ||| src.val s))
      ∧ Runs (.xor f) s (fun t => become t dst (dst.val s ^^^ src.val s)))
    ∧ (∀ f : TestForm, overTest f s fun _ a c =>
      Runs (.test f) s fun t => s.setFlags (bitwiseFlags (a &&& c) t.flags s.flags))
    ∧ (s.params.undoc = .emulate →
      (∀ e i, Runs (.testAlias (.b e i)) s fun t =>
        s.setFlags (bitwiseFlags ((place8 e s).val s &&& i) t.flags s.flags))
      ∧ (∀ e i, Runs (.testAlias (.w e i)) s fun t =>
        s.setFlags (bitwiseFlags ((place16 e s).val s &&& i) t.flags s.flags))
      ∧ (∀ e i, let p := place8 e s
        Runs (.andAlias82 e i) s (fun t => become t p (p.val s &&& i))
        ∧ Runs (.orAlias82 e i) s (fun t => become t p (p.val s ||| i))
        ∧ Runs (.xorAlias82 e i) s (fun t => become t p (p.val s ^^^ i)))
      ∧ ∀ e (i : Byte), let p := place16 e s
        Runs (.andAlias83 e i) s (fun t => become t p (p.val s &&& i.signExtend 16))
        ∧ Runs (.orAlias83 e i) s (fun t => become t p (p.val s ||| i.signExtend 16))
        ∧ Runs (.xorAlias83 e i) s (fun t => become t p (p.val s ^^^ i.signExtend 16)))

/-- 42_logic_shift.md R130 to R137: the seven shifts and rotates, by 1 or by the whole of CL, in closed form. A count of 0 changes
nothing. -/
def Obligations.ShiftForms : Prop :=
  ∀ (op : ShiftOp) (f : ShiftForm) (s : State), s.accepts →
    overShift f s fun _ p n =>
      (n = 0 → Runs (shiftRow op f) s fun _ => s)
      ∧ (0 < n → Runs (shiftRow op f) s fun t =>
          (p.put (shiftClosed op (p.val s) s.flags.cf n).1 s).setFlags (shiftFlagsAfter op (p.val s) n t.flags s.flags))

/-! ## Strings -/

/-- 43_string.md R138, R140, R142 to R146: one unit of a string instruction. Without a repeat prefix it is one element, and IP is the
offset after it. Under one: with CX = 0 there is no element and the repetition ends; otherwise one element and CX down by 1,
and the repetition ends, with IP after the instruction, when CX is 0 or a compare's ZF says so, and else is recorded, with IP
at its first byte. -/
def Obligations.StringUnit : Prop :=
  ∀ (o : StrOp) (n : StrWidth) (s : State), s.accepts →
    let e : Word := s.decodePos
    (s.pfx.rep = none → Runs (o.instr n) s fun _ => { o.effect n s with ip := e })
    ∧ ∀ k, s.pfx.rep = some k →
      (s.gpr.cx = 0 → Runs (o.instr n) s fun _ => { s with rep := none, ip := e })
      ∧ (s.gpr.cx ≠ 0 →
          let u := (o.effect n s).setReg16 .cx (s.gpr.cx - 1)
          (o.ends k u.gpr.cx u.flags.zf → Runs (o.instr n) s fun _ => { u with rep := none, ip := e })
          ∧ (¬ o.ends k u.gpr.cx u.flags.zf →
              Runs (o.instr n) s fun _ => { u with rep := some ⟨o.instr n, s.pfx, e⟩, ip := s.pfx.start }))

/-! ## Control transfer -/

/-- 44_control_transfer.md R147, R148, 47_undocumented.md R185: the sixteen conditional jumps, and 60h..6Fh under UNDOC_POLICY =
emulate. A taken jump goes to the offset after it plus the signed displacement and flushes; one not taken changes nothing. -/
def Obligations.ConditionalJumps : Prop :=
  ∀ (c : Cond) (rel : Byte) (s : State),
    let target : Word := BitVec.ofInt 16 (s.ip.toNat + rel.toInt)
    let u : State := { s with ip := target, queue := [], fetchIp := target }
    (condTaken c s.flags → exec (jccRow c rel) s = .next u ∧
      (s.params.undoc = .emulate → exec (jccAliasRow c rel) s = .next u))
    ∧ (¬ condTaken c s.flags → exec (jccRow c rel) s = .next s ∧
      (s.params.undoc = .emulate → exec (jccAliasRow c rel) s = .next s))

/-- 44_control_transfer.md R147 with 41_arithmetic.md R109: what the conditions say after CMP. -/
def Obligations.ConditionsAfterCompare : Prop :=
  ∀ (w : Nat) (a c : BitVec w) (af : Bool) (g : Flags), w = 8 ∨ w = 16 →
    let f := aluFlags .cmp a c af g
    Cond.b.holds f = decide (a.toNat < c.toNat) ∧ Cond.ae.holds f = decide (c.toNat ≤ a.toNat)
    ∧ Cond.be.holds f = decide (a.toNat ≤ c.toNat) ∧ Cond.a.holds f = decide (c.toNat < a.toNat)
    ∧ Cond.e.holds f = decide (a = c) ∧ Cond.ne.holds f = decide (a ≠ c)
    ∧ Cond.l.holds f = decide (a.toInt < c.toInt) ∧ Cond.ge.holds f = decide (c.toInt ≤ a.toInt)
    ∧ Cond.le.holds f = decide (a.toInt ≤ c.toInt) ∧ Cond.g.holds f = decide (c.toInt < a.toInt)

/-- 44_control_transfer.md R149, R150, R151, R152, R153, R154, R155: LOOP, LOOPE, LOOPNE, JCXZ and the direct jumps. -/
def Obligations.LoopsAndJumps : Prop :=
  ∀ (s : State) (rel : Byte),
    let go (u : State) (taken : Prop) [Decidable taken] : State :=
      if taken then { u with
        ip := BitVec.ofInt 16 (u.ip.toNat + rel.toInt), queue := [], fetchIp := BitVec.ofInt 16 (u.ip.toNat + rel.toInt) }
      else u
    let u := s.setReg16 .cx (s.gpr.cx - 1)
    exec (.loop rel) s = .next (go u (s.gpr.cx ≠ 1))
    ∧ exec (.loope rel) s = .next (go u (s.gpr.cx ≠ 1 ∧ s.flags.zf = true))
    ∧ exec (.loopne rel) s = .next (go u (s.gpr.cx ≠ 1 ∧ s.flags.zf = false))
    ∧ exec (.jcxz rel) s = .next (go s (s.gpr.cx = 0))
    ∧ exec (.jmpShort rel) s = .next (go s True)
    ∧ (∀ d : Word, exec (.jmp d) s = .next { s with ip := s.ip + d, queue := [], fetchIp := s.ip + d })
    ∧ ∀ off seg : Word, exec (.jmpFar off seg) s =
        .next { s with ip := off, sreg := { s.sreg with cs := seg }, queue := [], fetchIp := off }

/-- 44_control_transfer.md R156 to R161: indirect jumps, near and far, and CALL. A call pushes the offset after the instruction, a far call
CS before it; an indirect target is read before anything is pushed. -/
def Obligations.IndirectJumpsAndCalls : Prop :=
  ∀ s : State, s.accepts →
    let far (off seg : Word) : State :=
      { (s.pushed s.sreg.cs).pushed s.ip with ip := off, sreg := { s.sreg with cs := seg } }
    (∀ e, Jumps (.jmpEv e) s fun _ => { s with ip := (place16 e s).val s })
    ∧ (∀ m, Jumps (.jmpFarMp m) s fun _ =>
        { s with
          ip := s.wordAt (memSeg m s) (effAddr m s)
          sreg := { s.sreg with cs := s.wordAt (memSeg m s) (effAddr m s + 2) } })
    ∧ (∀ d : Word, Jumps (.call d) s fun _ => { s.pushed s.ip with ip := s.ip + d })
    ∧ (∀ e, Jumps (.callEv e) s fun _ => { s.pushed s.ip with ip := (place16 e s).val s })
    ∧ (∀ off seg, Jumps (.callFar off seg) s fun _ => far off seg)
    ∧ ∀ m, Jumps (.callFarMp m) s fun _ =>
        far (s.wordAt (memSeg m s) (effAddr m s)) (s.wordAt (memSeg m s) (effAddr m s + 2))

/-- 44_control_transfer.md R162 to R165, 45_interrupt_instructions.md R169, 47_undocumented.md R186: RET, RETF and IRET, and C0h, C1h, C8h, C9h
under UNDOC_POLICY = emulate. -/
def Obligations.Returns : Prop :=
  ∀ s : State, s.accepts →
    let near (n : Word) : State :=
      { s with ip := s.stackWord 0, gpr := { s.gpr with sp := s.gpr.sp + 2 + n } }
    let far (n : Word) : State :=
      { s with
        ip := s.stackWord 0
        sreg := { s.sreg with cs := s.stackWord 1 }
        gpr := { s.gpr with sp := s.gpr.sp + 4 + n } }
    Jumps .ret s (fun _ => near 0)
    ∧ (∀ n, Jumps (.retIw n) s fun _ => near n)
    ∧ Jumps .retf s (fun _ => far 0)
    ∧ (∀ n, Jumps (.retfIw n) s fun _ => far n)
    ∧ Jumps .iret s (fun _ => { far 2 with flags := loadFlags (s.stackWord 2) })
    ∧ (s.params.undoc = .emulate →
        Jumps .retAlias s (fun _ => near 0)
        ∧ (∀ n, Jumps (.retIwAlias n) s fun _ => near n)
        ∧ Jumps .retfAlias s (fun _ => far 0)
        ∧ ∀ n, Jumps (.retfIwAlias n) s fun _ => far n)

/-! ## Interrupt instructions and processor control -/

/-- 45_interrupt_instructions.md R166, R167, R168, with 60_exceptions.md R210: INT n, INT3 and INTO raise a request, and the boundary that
ends the unit takes it by the entry sequence, before any other request. -/
def Obligations.SoftwareInterrupts : Prop :=
  ∀ s : State,
    (∀ n, exec (.int n) s = .next { s with internalReq := some n })
    ∧ exec .int3 s = .next { s with internalReq := some 3 }
    ∧ (s.flags.ofl = true → exec .into s = .next { s with internalReq := some 4 })
    ∧ (s.flags.ofl = false → exec .into s = .next s)
    ∧ (s.fault = none → s.nmiQ = [] → s.accepts → s.ssLatch = false → s.inhibit = false → ∀ n,
        ∃ t u, exec (.int n) s = .next t ∧ intEntry n { s with internalReq := none, pfx := Prefixes.none } = .ok () u ∧
          boundary false t = u)

/-- 46_processor_control.md R170 to R176: the seven flag instructions, with their encodings. -/
def Obligations.FlagInstructions : Prop :=
  ∀ (s : State) (r : List Byte),
    (decode false (0xF8 :: r) = .ok (.clc, r) ∧ exec .clc s = .next (s.setFlags { s.flags with cf := false }))
    ∧ (decode false (0xF9 :: r) = .ok (.stc, r) ∧ exec .stc s = .next (s.setFlags { s.flags with cf := true }))
    ∧ (decode false (0xF5 :: r) = .ok (.cmc, r) ∧ exec .cmc s = .next (s.setFlags { s.flags with cf := !s.flags.cf }))
    ∧ (decode false (0xFC :: r) = .ok (.cld, r) ∧ exec .cld s = .next (s.setFlags { s.flags with df := false }))
    ∧ (decode false (0xFD :: r) = .ok (.std, r) ∧ exec .std s = .next (s.setFlags { s.flags with df := true }))
    ∧ (decode false (0xFA :: r) = .ok (.cli, r) ∧ exec .cli s = .next (s.setFlags { s.flags with ifl := false }))
    ∧ (decode false (0xFB :: r) = .ok (.sti, r) ∧ exec .sti s = .next (s.setFlags { s.flags with ifl := true }))

/-- 46_processor_control.md R177 to R182, 30_encoding.md R63, R71, 47_undocumented.md R184: HLT, WAIT, ESC, NOP, and what each prefix byte
records (that the record is a field of State is the model's choice, notes/assumptions/13.md); the last override and the last
repeat prefix win. A WAIT that finds TEST not asserted puts IP back at the first byte, so that it runs again (that it flushes
is the model's reading, notes/assumptions/16.md). -/
def Obligations.ProcessorControl : Prop :=
  ∀ s : State,
    let next (p : Prefixes) : State := { s with pfx := { p with count := s.pfx.count + 1 } }
    exec .hlt s = .next { s with halted := true }
    ∧ (s.testAsserted = true → exec .wait s = .next s)
    ∧ (s.testAsserted = false →
        exec .wait s = .next { s with ip := s.pfx.start, queue := [], fetchIp := s.pfx.start })
    ∧ exec .nop s = .next s
    ∧ (∀ op reg e, exec (.esc op reg e) s = .next s)
    ∧ exec .segEs s = .next (next { s.pfx with seg := some .es })
    ∧ exec .segCs s = .next (next { s.pfx with seg := some .cs })
    ∧ exec .segSs s = .next (next { s.pfx with seg := some .ss })
    ∧ exec .segDs s = .next (next { s.pfx with seg := some .ds })
    ∧ exec .lock s = .next (next { s.pfx with lock := true })
    ∧ exec .repne s = .next (next { s.pfx with rep := some .repne })
    ∧ exec .rep s = .next (next { s.pfx with rep := some .repe })
    ∧ (s.params.undoc = .emulate → exec .lockF1 s = .next (next { s.pfx with lock := true, f1 := true }))

/-! ## Undocumented encodings -/

/-- 47_undocumented.md R195, R196: SALC, SETMO and SETMOC under UNDOC_POLICY = emulate. -/
def Obligations.UndocumentedOperations : Prop :=
  ∀ s : State, s.params.undoc = .emulate → s.accepts →
    let ones (t : State) : State :=
      t.setFlags { s.flags with cf := false, ofl := false, af := false, sf := true, zf := false, pf := true }
    Runs .salc s (fun _ => s.setReg8 .al (if s.flags.cf then 0xFF else 0))
    ∧ ∀ f : RmForm, overRm f s fun w p =>
        Runs (.setmo f) s (fun _ => ones (p.put (BitVec.ofNat w (2 ^ w - 1)) s))
        ∧ (s.reg8 .cl ≠ 0 → Runs (.setmoc f) s fun _ => ones (p.put (BitVec.ofNat w (2 ^ w - 1)) s))
        ∧ (s.reg8 .cl = 0 → Runs (.setmoc f) s fun _ => s)

/-- 47_undocumented.md R183, R197, R198, R199, 60_exceptions.md R203: an encoding of class A or B is refused under UNDOC_POLICY = refuse, one of
class C under both settings: IP back at the first byte, the sticky failure, and nothing else. -/
def Obligations.RefusedEncodings : Prop :=
  ∀ (i : Instr) (s : State),
    (isUndocumented i = true → s.params.undoc = .refuse → Refuses i s) ∧ (isClassC i = true → Refuses i s)
end

