-- ==== Sys2Proof/Laws/State.lean ====
section
/-! SUPPORT. One lemma per field of State for each update of the machine and of Sys2Proof/Safety.lean, true by `rfl`, so that
no proof unfolds a record update; and the registers after a register write. -/

namespace Sys2Proof.Machine

@[simp] theorem State.setReg16_gpr (s : State) (r : Reg16) (v : Word) : (s.setReg16 r v).gpr = s.gpr.set r v := rfl
@[simp] theorem State.setReg16_sreg (s : State) (r : Reg16) (v : Word) : (s.setReg16 r v).sreg = s.sreg := rfl
@[simp] theorem State.setReg16_ip (s : State) (r : Reg16) (v : Word) : (s.setReg16 r v).ip = s.ip := rfl
@[simp] theorem State.setReg16_flags (s : State) (r : Reg16) (v : Word) : (s.setReg16 r v).flags = s.flags := rfl
@[simp] theorem State.setReg16_queue (s : State) (r : Reg16) (v : Word) : (s.setReg16 r v).queue = s.queue := rfl
@[simp] theorem State.setReg16_fetchIp (s : State) (r : Reg16) (v : Word) : (s.setReg16 r v).fetchIp = s.fetchIp := rfl
@[simp] theorem State.setReg16_halted (s : State) (r : Reg16) (v : Word) : (s.setReg16 r v).halted = s.halted := rfl
@[simp] theorem State.setReg16_internalReq (s : State) (r : Reg16) (v : Word) :
    (s.setReg16 r v).internalReq = s.internalReq := rfl
@[simp] theorem State.setReg16_nmiQ (s : State) (r : Reg16) (v : Word) : (s.setReg16 r v).nmiQ = s.nmiQ := rfl
@[simp] theorem State.setReg16_intrQ (s : State) (r : Reg16) (v : Word) : (s.setReg16 r v).intrQ = s.intrQ := rfl
@[simp] theorem State.setReg16_ssLatch (s : State) (r : Reg16) (v : Word) : (s.setReg16 r v).ssLatch = s.ssLatch := rfl
@[simp] theorem State.setReg16_inhibit (s : State) (r : Reg16) (v : Word) : (s.setReg16 r v).inhibit = s.inhibit := rfl
@[simp] theorem State.setReg16_rep (s : State) (r : Reg16) (v : Word) : (s.setReg16 r v).rep = s.rep := rfl
@[simp] theorem State.setReg16_fault (s : State) (r : Reg16) (v : Word) : (s.setReg16 r v).fault = s.fault := rfl
@[simp] theorem State.setReg16_mem (s : State) (r : Reg16) (v : Word) : (s.setReg16 r v).mem = s.mem := rfl
@[simp] theorem State.setReg16_params (s : State) (r : Reg16) (v : Word) : (s.setReg16 r v).params = s.params := rfl
@[simp] theorem State.setReg16_testAsserted (s : State) (r : Reg16) (v : Word) :
    (s.setReg16 r v).testAsserted = s.testAsserted := rfl
@[simp] theorem State.setReg16_pfx (s : State) (r : Reg16) (v : Word) : (s.setReg16 r v).pfx = s.pfx := rfl
@[simp] theorem State.setReg16_rejects (s : State) (r : Reg16) (v : Word) : (s.setReg16 r v).rejects = s.rejects := rfl
@[simp] theorem State.setReg16_busLog (s : State) (r : Reg16) (v : Word) : (s.setReg16 r v).busLog = s.busLog := rfl
@[simp] theorem State.setReg16_draws (s : State) (r : Reg16) (v : Word) : (s.setReg16 r v).draws = s.draws := rfl

@[simp] theorem State.setReg8_gpr (s : State) (r : Reg8) (v : Byte) : (s.setReg8 r v).gpr = s.gpr.set8 r v := rfl
@[simp] theorem State.setReg8_sreg (s : State) (r : Reg8) (v : Byte) : (s.setReg8 r v).sreg = s.sreg := rfl
@[simp] theorem State.setReg8_ip (s : State) (r : Reg8) (v : Byte) : (s.setReg8 r v).ip = s.ip := rfl
@[simp] theorem State.setReg8_flags (s : State) (r : Reg8) (v : Byte) : (s.setReg8 r v).flags = s.flags := rfl
@[simp] theorem State.setReg8_queue (s : State) (r : Reg8) (v : Byte) : (s.setReg8 r v).queue = s.queue := rfl
@[simp] theorem State.setReg8_fetchIp (s : State) (r : Reg8) (v : Byte) : (s.setReg8 r v).fetchIp = s.fetchIp := rfl
@[simp] theorem State.setReg8_halted (s : State) (r : Reg8) (v : Byte) : (s.setReg8 r v).halted = s.halted := rfl
@[simp] theorem State.setReg8_internalReq (s : State) (r : Reg8) (v : Byte) :
    (s.setReg8 r v).internalReq = s.internalReq := rfl
@[simp] theorem State.setReg8_nmiQ (s : State) (r : Reg8) (v : Byte) : (s.setReg8 r v).nmiQ = s.nmiQ := rfl
@[simp] theorem State.setReg8_intrQ (s : State) (r : Reg8) (v : Byte) : (s.setReg8 r v).intrQ = s.intrQ := rfl
@[simp] theorem State.setReg8_ssLatch (s : State) (r : Reg8) (v : Byte) : (s.setReg8 r v).ssLatch = s.ssLatch := rfl
@[simp] theorem State.setReg8_inhibit (s : State) (r : Reg8) (v : Byte) : (s.setReg8 r v).inhibit = s.inhibit := rfl
@[simp] theorem State.setReg8_rep (s : State) (r : Reg8) (v : Byte) : (s.setReg8 r v).rep = s.rep := rfl
@[simp] theorem State.setReg8_fault (s : State) (r : Reg8) (v : Byte) : (s.setReg8 r v).fault = s.fault := rfl
@[simp] theorem State.setReg8_mem (s : State) (r : Reg8) (v : Byte) : (s.setReg8 r v).mem = s.mem := rfl
@[simp] theorem State.setReg8_params (s : State) (r : Reg8) (v : Byte) : (s.setReg8 r v).params = s.params := rfl
@[simp] theorem State.setReg8_testAsserted (s : State) (r : Reg8) (v : Byte) :
    (s.setReg8 r v).testAsserted = s.testAsserted := rfl
@[simp] theorem State.setReg8_pfx (s : State) (r : Reg8) (v : Byte) : (s.setReg8 r v).pfx = s.pfx := rfl
@[simp] theorem State.setReg8_rejects (s : State) (r : Reg8) (v : Byte) : (s.setReg8 r v).rejects = s.rejects := rfl
@[simp] theorem State.setReg8_busLog (s : State) (r : Reg8) (v : Byte) : (s.setReg8 r v).busLog = s.busLog := rfl
@[simp] theorem State.setReg8_draws (s : State) (r : Reg8) (v : Byte) : (s.setReg8 r v).draws = s.draws := rfl

@[simp] theorem State.setSeg_gpr (s : State) (r : SReg) (v : Word) : (s.setSeg r v).gpr = s.gpr := rfl
@[simp] theorem State.setSeg_sreg (s : State) (r : SReg) (v : Word) : (s.setSeg r v).sreg = s.sreg.set r v := rfl
@[simp] theorem State.setSeg_ip (s : State) (r : SReg) (v : Word) : (s.setSeg r v).ip = s.ip := rfl
@[simp] theorem State.setSeg_flags (s : State) (r : SReg) (v : Word) : (s.setSeg r v).flags = s.flags := rfl
@[simp] theorem State.setSeg_queue (s : State) (r : SReg) (v : Word) : (s.setSeg r v).queue = s.queue := rfl
@[simp] theorem State.setSeg_fetchIp (s : State) (r : SReg) (v : Word) : (s.setSeg r v).fetchIp = s.fetchIp := rfl
@[simp] theorem State.setSeg_halted (s : State) (r : SReg) (v : Word) : (s.setSeg r v).halted = s.halted := rfl
@[simp] theorem State.setSeg_internalReq (s : State) (r : SReg) (v : Word) :
    (s.setSeg r v).internalReq = s.internalReq := rfl
@[simp] theorem State.setSeg_nmiQ (s : State) (r : SReg) (v : Word) : (s.setSeg r v).nmiQ = s.nmiQ := rfl
@[simp] theorem State.setSeg_intrQ (s : State) (r : SReg) (v : Word) : (s.setSeg r v).intrQ = s.intrQ := rfl
@[simp] theorem State.setSeg_ssLatch (s : State) (r : SReg) (v : Word) : (s.setSeg r v).ssLatch = s.ssLatch := rfl
@[simp] theorem State.setSeg_inhibit (s : State) (r : SReg) (v : Word) : (s.setSeg r v).inhibit = s.inhibit := rfl
@[simp] theorem State.setSeg_rep (s : State) (r : SReg) (v : Word) : (s.setSeg r v).rep = s.rep := rfl
@[simp] theorem State.setSeg_fault (s : State) (r : SReg) (v : Word) : (s.setSeg r v).fault = s.fault := rfl
@[simp] theorem State.setSeg_mem (s : State) (r : SReg) (v : Word) : (s.setSeg r v).mem = s.mem := rfl
@[simp] theorem State.setSeg_params (s : State) (r : SReg) (v : Word) : (s.setSeg r v).params = s.params := rfl
@[simp] theorem State.setSeg_testAsserted (s : State) (r : SReg) (v : Word) :
    (s.setSeg r v).testAsserted = s.testAsserted := rfl
@[simp] theorem State.setSeg_pfx (s : State) (r : SReg) (v : Word) : (s.setSeg r v).pfx = s.pfx := rfl
@[simp] theorem State.setSeg_rejects (s : State) (r : SReg) (v : Word) : (s.setSeg r v).rejects = s.rejects := rfl
@[simp] theorem State.setSeg_busLog (s : State) (r : SReg) (v : Word) : (s.setSeg r v).busLog = s.busLog := rfl
@[simp] theorem State.setSeg_draws (s : State) (r : SReg) (v : Word) : (s.setSeg r v).draws = s.draws := rfl

@[simp] theorem State.setFlags_gpr (s : State) (f : Flags) : (s.setFlags f).gpr = s.gpr := rfl
@[simp] theorem State.setFlags_sreg (s : State) (f : Flags) : (s.setFlags f).sreg = s.sreg := rfl
@[simp] theorem State.setFlags_ip (s : State) (f : Flags) : (s.setFlags f).ip = s.ip := rfl
@[simp] theorem State.setFlags_flags (s : State) (f : Flags) : (s.setFlags f).flags = f := rfl
@[simp] theorem State.setFlags_queue (s : State) (f : Flags) : (s.setFlags f).queue = s.queue := rfl
@[simp] theorem State.setFlags_fetchIp (s : State) (f : Flags) : (s.setFlags f).fetchIp = s.fetchIp := rfl
@[simp] theorem State.setFlags_halted (s : State) (f : Flags) : (s.setFlags f).halted = s.halted := rfl
@[simp] theorem State.setFlags_internalReq (s : State) (f : Flags) : (s.setFlags f).internalReq = s.internalReq := rfl
@[simp] theorem State.setFlags_nmiQ (s : State) (f : Flags) : (s.setFlags f).nmiQ = s.nmiQ := rfl
@[simp] theorem State.setFlags_intrQ (s : State) (f : Flags) : (s.setFlags f).intrQ = s.intrQ := rfl
@[simp] theorem State.setFlags_ssLatch (s : State) (f : Flags) : (s.setFlags f).ssLatch = s.ssLatch := rfl
@[simp] theorem State.setFlags_inhibit (s : State) (f : Flags) : (s.setFlags f).inhibit = s.inhibit := rfl
@[simp] theorem State.setFlags_rep (s : State) (f : Flags) : (s.setFlags f).rep = s.rep := rfl
@[simp] theorem State.setFlags_fault (s : State) (f : Flags) : (s.setFlags f).fault = s.fault := rfl
@[simp] theorem State.setFlags_mem (s : State) (f : Flags) : (s.setFlags f).mem = s.mem := rfl
@[simp] theorem State.setFlags_params (s : State) (f : Flags) : (s.setFlags f).params = s.params := rfl
@[simp] theorem State.setFlags_testAsserted (s : State) (f : Flags) :
    (s.setFlags f).testAsserted = s.testAsserted := rfl
@[simp] theorem State.setFlags_pfx (s : State) (f : Flags) : (s.setFlags f).pfx = s.pfx := rfl
@[simp] theorem State.setFlags_rejects (s : State) (f : Flags) : (s.setFlags f).rejects = s.rejects := rfl
@[simp] theorem State.setFlags_busLog (s : State) (f : Flags) : (s.setFlags f).busLog = s.busLog := rfl
@[simp] theorem State.setFlags_draws (s : State) (f : Flags) : (s.setFlags f).draws = s.draws := rfl

@[simp] theorem State.setIp_gpr (s : State) (v : Word) : (s.setIp v).gpr = s.gpr := rfl
@[simp] theorem State.setIp_sreg (s : State) (v : Word) : (s.setIp v).sreg = s.sreg := rfl
@[simp] theorem State.setIp_ip (s : State) (v : Word) : (s.setIp v).ip = v := rfl
@[simp] theorem State.setIp_flags (s : State) (v : Word) : (s.setIp v).flags = s.flags := rfl
@[simp] theorem State.setIp_queue (s : State) (v : Word) : (s.setIp v).queue = s.queue := rfl
@[simp] theorem State.setIp_fetchIp (s : State) (v : Word) : (s.setIp v).fetchIp = s.fetchIp := rfl
@[simp] theorem State.setIp_halted (s : State) (v : Word) : (s.setIp v).halted = s.halted := rfl
@[simp] theorem State.setIp_internalReq (s : State) (v : Word) : (s.setIp v).internalReq = s.internalReq := rfl
@[simp] theorem State.setIp_nmiQ (s : State) (v : Word) : (s.setIp v).nmiQ = s.nmiQ := rfl
@[simp] theorem State.setIp_intrQ (s : State) (v : Word) : (s.setIp v).intrQ = s.intrQ := rfl
@[simp] theorem State.setIp_ssLatch (s : State) (v : Word) : (s.setIp v).ssLatch = s.ssLatch := rfl
@[simp] theorem State.setIp_inhibit (s : State) (v : Word) : (s.setIp v).inhibit = s.inhibit := rfl
@[simp] theorem State.setIp_rep (s : State) (v : Word) : (s.setIp v).rep = s.rep := rfl
@[simp] theorem State.setIp_fault (s : State) (v : Word) : (s.setIp v).fault = s.fault := rfl
@[simp] theorem State.setIp_mem (s : State) (v : Word) : (s.setIp v).mem = s.mem := rfl
@[simp] theorem State.setIp_params (s : State) (v : Word) : (s.setIp v).params = s.params := rfl
@[simp] theorem State.setIp_testAsserted (s : State) (v : Word) : (s.setIp v).testAsserted = s.testAsserted := rfl
@[simp] theorem State.setIp_pfx (s : State) (v : Word) : (s.setIp v).pfx = s.pfx := rfl
@[simp] theorem State.setIp_rejects (s : State) (v : Word) : (s.setIp v).rejects = s.rejects := rfl
@[simp] theorem State.setIp_busLog (s : State) (v : Word) : (s.setIp v).busLog = s.busLog := rfl
@[simp] theorem State.setIp_draws (s : State) (v : Word) : (s.setIp v).draws = s.draws := rfl

@[simp] theorem State.drew_gpr (s : State) (n : Nat) : (s.drew n).gpr = s.gpr := rfl
@[simp] theorem State.drew_sreg (s : State) (n : Nat) : (s.drew n).sreg = s.sreg := rfl
@[simp] theorem State.drew_ip (s : State) (n : Nat) : (s.drew n).ip = s.ip := rfl
@[simp] theorem State.drew_flags (s : State) (n : Nat) : (s.drew n).flags = s.flags := rfl
@[simp] theorem State.drew_queue (s : State) (n : Nat) : (s.drew n).queue = s.queue := rfl
@[simp] theorem State.drew_fetchIp (s : State) (n : Nat) : (s.drew n).fetchIp = s.fetchIp := rfl
@[simp] theorem State.drew_halted (s : State) (n : Nat) : (s.drew n).halted = s.halted := rfl
@[simp] theorem State.drew_internalReq (s : State) (n : Nat) : (s.drew n).internalReq = s.internalReq := rfl
@[simp] theorem State.drew_nmiQ (s : State) (n : Nat) : (s.drew n).nmiQ = s.nmiQ := rfl
@[simp] theorem State.drew_intrQ (s : State) (n : Nat) : (s.drew n).intrQ = s.intrQ := rfl
@[simp] theorem State.drew_ssLatch (s : State) (n : Nat) : (s.drew n).ssLatch = s.ssLatch := rfl
@[simp] theorem State.drew_inhibit (s : State) (n : Nat) : (s.drew n).inhibit = s.inhibit := rfl
@[simp] theorem State.drew_rep (s : State) (n : Nat) : (s.drew n).rep = s.rep := rfl
@[simp] theorem State.drew_fault (s : State) (n : Nat) : (s.drew n).fault = s.fault := rfl
@[simp] theorem State.drew_mem (s : State) (n : Nat) : (s.drew n).mem = s.mem := rfl
@[simp] theorem State.drew_params (s : State) (n : Nat) : (s.drew n).params = s.params := rfl
@[simp] theorem State.drew_testAsserted (s : State) (n : Nat) : (s.drew n).testAsserted = s.testAsserted := rfl
@[simp] theorem State.drew_pfx (s : State) (n : Nat) : (s.drew n).pfx = s.pfx := rfl
@[simp] theorem State.drew_rejects (s : State) (n : Nat) : (s.drew n).rejects = s.rejects := rfl
@[simp] theorem State.drew_busLog (s : State) (n : Nat) : (s.drew n).busLog = s.busLog := rfl
@[simp] theorem State.drew_draws (s : State) (n : Nat) : (s.drew n).draws = s.draws + n := rfl

@[simp] theorem State.log_gpr (s : State) (o : BusOp) : (s.log o).gpr = s.gpr := rfl
@[simp] theorem State.log_sreg (s : State) (o : BusOp) : (s.log o).sreg = s.sreg := rfl
@[simp] theorem State.log_ip (s : State) (o : BusOp) : (s.log o).ip = s.ip := rfl
@[simp] theorem State.log_flags (s : State) (o : BusOp) : (s.log o).flags = s.flags := rfl
@[simp] theorem State.log_queue (s : State) (o : BusOp) : (s.log o).queue = s.queue := rfl
@[simp] theorem State.log_fetchIp (s : State) (o : BusOp) : (s.log o).fetchIp = s.fetchIp := rfl
@[simp] theorem State.log_halted (s : State) (o : BusOp) : (s.log o).halted = s.halted := rfl
@[simp] theorem State.log_internalReq (s : State) (o : BusOp) : (s.log o).internalReq = s.internalReq := rfl
@[simp] theorem State.log_nmiQ (s : State) (o : BusOp) : (s.log o).nmiQ = s.nmiQ := rfl
@[simp] theorem State.log_intrQ (s : State) (o : BusOp) : (s.log o).intrQ = s.intrQ := rfl
@[simp] theorem State.log_ssLatch (s : State) (o : BusOp) : (s.log o).ssLatch = s.ssLatch := rfl
@[simp] theorem State.log_inhibit (s : State) (o : BusOp) : (s.log o).inhibit = s.inhibit := rfl
@[simp] theorem State.log_rep (s : State) (o : BusOp) : (s.log o).rep = s.rep := rfl
@[simp] theorem State.log_fault (s : State) (o : BusOp) : (s.log o).fault = s.fault := rfl
@[simp] theorem State.log_mem (s : State) (o : BusOp) : (s.log o).mem = s.mem := rfl
@[simp] theorem State.log_params (s : State) (o : BusOp) : (s.log o).params = s.params := rfl
@[simp] theorem State.log_testAsserted (s : State) (o : BusOp) : (s.log o).testAsserted = s.testAsserted := rfl
@[simp] theorem State.log_pfx (s : State) (o : BusOp) : (s.log o).pfx = s.pfx := rfl
@[simp] theorem State.log_rejects (s : State) (o : BusOp) : (s.log o).rejects = s.rejects := rfl
@[simp] theorem State.log_busLog (s : State) (o : BusOp) : (s.log o).busLog = o :: s.busLog := rfl
@[simp] theorem State.log_draws (s : State) (o : BusOp) : (s.log o).draws = s.draws := rfl

@[simp] theorem State.busFault_gpr (s : State) : (s.busFault).gpr = s.gpr := rfl
@[simp] theorem State.busFault_sreg (s : State) : (s.busFault).sreg = s.sreg := rfl
@[simp] theorem State.busFault_ip (s : State) : (s.busFault).ip = s.ip := rfl
@[simp] theorem State.busFault_flags (s : State) : (s.busFault).flags = s.flags := rfl
@[simp] theorem State.busFault_queue (s : State) : (s.busFault).queue = s.queue := rfl
@[simp] theorem State.busFault_fetchIp (s : State) : (s.busFault).fetchIp = s.fetchIp := rfl
@[simp] theorem State.busFault_halted (s : State) : (s.busFault).halted = s.halted := rfl
@[simp] theorem State.busFault_internalReq (s : State) : (s.busFault).internalReq = s.internalReq := rfl
@[simp] theorem State.busFault_nmiQ (s : State) : (s.busFault).nmiQ = s.nmiQ := rfl
@[simp] theorem State.busFault_intrQ (s : State) : (s.busFault).intrQ = s.intrQ := rfl
@[simp] theorem State.busFault_ssLatch (s : State) : (s.busFault).ssLatch = s.ssLatch := rfl
@[simp] theorem State.busFault_inhibit (s : State) : (s.busFault).inhibit = s.inhibit := rfl
@[simp] theorem State.busFault_rep (s : State) : (s.busFault).rep = s.rep := rfl
@[simp] theorem State.busFault_fault (s : State) : (s.busFault).fault = some .busFault := rfl
@[simp] theorem State.busFault_mem (s : State) : (s.busFault).mem = s.mem := rfl
@[simp] theorem State.busFault_params (s : State) : (s.busFault).params = s.params := rfl
@[simp] theorem State.busFault_testAsserted (s : State) : (s.busFault).testAsserted = s.testAsserted := rfl
@[simp] theorem State.busFault_pfx (s : State) : (s.busFault).pfx = s.pfx := rfl
@[simp] theorem State.busFault_rejects (s : State) : (s.busFault).rejects = s.rejects := rfl
@[simp] theorem State.busFault_busLog (s : State) : (s.busFault).busLog = s.busLog := rfl
@[simp] theorem State.busFault_draws (s : State) : (s.busFault).draws = s.draws := rfl

@[simp] theorem State.appended_gpr (s : State) (k : Nat) : (s.appended k).gpr = s.gpr := rfl
@[simp] theorem State.appended_sreg (s : State) (k : Nat) : (s.appended k).sreg = s.sreg := rfl
@[simp] theorem State.appended_ip (s : State) (k : Nat) : (s.appended k).ip = s.ip := rfl
@[simp] theorem State.appended_flags (s : State) (k : Nat) : (s.appended k).flags = s.flags := rfl
@[simp] theorem State.appended_queue (s : State) (k : Nat) : (s.appended k).queue = s.queue ++ s.fetchBytes k := rfl
@[simp] theorem State.appended_fetchIp (s : State) (k : Nat) :
    (s.appended k).fetchIp = s.fetchIp + BitVec.ofNat 16 k := rfl
@[simp] theorem State.appended_halted (s : State) (k : Nat) : (s.appended k).halted = s.halted := rfl
@[simp] theorem State.appended_internalReq (s : State) (k : Nat) : (s.appended k).internalReq = s.internalReq := rfl
@[simp] theorem State.appended_nmiQ (s : State) (k : Nat) : (s.appended k).nmiQ = s.nmiQ := rfl
@[simp] theorem State.appended_intrQ (s : State) (k : Nat) : (s.appended k).intrQ = s.intrQ := rfl
@[simp] theorem State.appended_ssLatch (s : State) (k : Nat) : (s.appended k).ssLatch = s.ssLatch := rfl
@[simp] theorem State.appended_inhibit (s : State) (k : Nat) : (s.appended k).inhibit = s.inhibit := rfl
@[simp] theorem State.appended_rep (s : State) (k : Nat) : (s.appended k).rep = s.rep := rfl
@[simp] theorem State.appended_fault (s : State) (k : Nat) : (s.appended k).fault = s.fault := rfl
@[simp] theorem State.appended_mem (s : State) (k : Nat) : (s.appended k).mem = s.mem := rfl
@[simp] theorem State.appended_params (s : State) (k : Nat) : (s.appended k).params = s.params := rfl
@[simp] theorem State.appended_testAsserted (s : State) (k : Nat) : (s.appended k).testAsserted = s.testAsserted := rfl
@[simp] theorem State.appended_pfx (s : State) (k : Nat) : (s.appended k).pfx = s.pfx := rfl
@[simp] theorem State.appended_rejects (s : State) (k : Nat) : (s.appended k).rejects = s.rejects := rfl
@[simp] theorem State.appended_busLog (s : State) (k : Nat) : (s.appended k).busLog = s.fetchOps k ++ s.busLog := rfl
@[simp] theorem State.appended_draws (s : State) (k : Nat) : (s.appended k).draws = s.draws := rfl

@[simp] theorem State.flush_gpr (s : State) : (s.flush).gpr = s.gpr := rfl
@[simp] theorem State.flush_sreg (s : State) : (s.flush).sreg = s.sreg := rfl
@[simp] theorem State.flush_ip (s : State) : (s.flush).ip = s.ip := rfl
@[simp] theorem State.flush_flags (s : State) : (s.flush).flags = s.flags := rfl
@[simp] theorem State.flush_queue (s : State) : (s.flush).queue = [] := rfl
@[simp] theorem State.flush_fetchIp (s : State) : (s.flush).fetchIp = s.ip := rfl
@[simp] theorem State.flush_halted (s : State) : (s.flush).halted = s.halted := rfl
@[simp] theorem State.flush_internalReq (s : State) : (s.flush).internalReq = s.internalReq := rfl
@[simp] theorem State.flush_nmiQ (s : State) : (s.flush).nmiQ = s.nmiQ := rfl
@[simp] theorem State.flush_intrQ (s : State) : (s.flush).intrQ = s.intrQ := rfl
@[simp] theorem State.flush_ssLatch (s : State) : (s.flush).ssLatch = s.ssLatch := rfl
@[simp] theorem State.flush_inhibit (s : State) : (s.flush).inhibit = s.inhibit := rfl
@[simp] theorem State.flush_rep (s : State) : (s.flush).rep = s.rep := rfl
@[simp] theorem State.flush_fault (s : State) : (s.flush).fault = s.fault := rfl
@[simp] theorem State.flush_mem (s : State) : (s.flush).mem = s.mem := rfl
@[simp] theorem State.flush_params (s : State) : (s.flush).params = s.params := rfl
@[simp] theorem State.flush_testAsserted (s : State) : (s.flush).testAsserted = s.testAsserted := rfl
@[simp] theorem State.flush_pfx (s : State) : (s.flush).pfx = s.pfx := rfl
@[simp] theorem State.flush_rejects (s : State) : (s.flush).rejects = s.rejects := rfl
@[simp] theorem State.flush_busLog (s : State) : (s.flush).busLog = s.busLog := rfl
@[simp] theorem State.flush_draws (s : State) : (s.flush).draws = s.draws := rfl

@[simp] theorem State.jumpTo_gpr (s : State) (v : Word) : (s.jumpTo v).gpr = s.gpr := rfl
@[simp] theorem State.jumpTo_sreg (s : State) (v : Word) : (s.jumpTo v).sreg = s.sreg := rfl
@[simp] theorem State.jumpTo_ip (s : State) (v : Word) : (s.jumpTo v).ip = v := rfl
@[simp] theorem State.jumpTo_flags (s : State) (v : Word) : (s.jumpTo v).flags = s.flags := rfl
@[simp] theorem State.jumpTo_queue (s : State) (v : Word) : (s.jumpTo v).queue = [] := rfl
@[simp] theorem State.jumpTo_fetchIp (s : State) (v : Word) : (s.jumpTo v).fetchIp = v := rfl
@[simp] theorem State.jumpTo_halted (s : State) (v : Word) : (s.jumpTo v).halted = s.halted := rfl
@[simp] theorem State.jumpTo_internalReq (s : State) (v : Word) : (s.jumpTo v).internalReq = s.internalReq := rfl
@[simp] theorem State.jumpTo_nmiQ (s : State) (v : Word) : (s.jumpTo v).nmiQ = s.nmiQ := rfl
@[simp] theorem State.jumpTo_intrQ (s : State) (v : Word) : (s.jumpTo v).intrQ = s.intrQ := rfl
@[simp] theorem State.jumpTo_ssLatch (s : State) (v : Word) : (s.jumpTo v).ssLatch = s.ssLatch := rfl
@[simp] theorem State.jumpTo_inhibit (s : State) (v : Word) : (s.jumpTo v).inhibit = s.inhibit := rfl
@[simp] theorem State.jumpTo_rep (s : State) (v : Word) : (s.jumpTo v).rep = s.rep := rfl
@[simp] theorem State.jumpTo_fault (s : State) (v : Word) : (s.jumpTo v).fault = s.fault := rfl
@[simp] theorem State.jumpTo_mem (s : State) (v : Word) : (s.jumpTo v).mem = s.mem := rfl
@[simp] theorem State.jumpTo_params (s : State) (v : Word) : (s.jumpTo v).params = s.params := rfl
@[simp] theorem State.jumpTo_testAsserted (s : State) (v : Word) : (s.jumpTo v).testAsserted = s.testAsserted := rfl
@[simp] theorem State.jumpTo_pfx (s : State) (v : Word) : (s.jumpTo v).pfx = s.pfx := rfl
@[simp] theorem State.jumpTo_rejects (s : State) (v : Word) : (s.jumpTo v).rejects = s.rejects := rfl
@[simp] theorem State.jumpTo_busLog (s : State) (v : Word) : (s.jumpTo v).busLog = s.busLog := rfl
@[simp] theorem State.jumpTo_draws (s : State) (v : Word) : (s.jumpTo v).draws = s.draws := rfl

@[simp] theorem State.jumpFar_gpr (s : State) (off seg : Word) : (s.jumpFar off seg).gpr = s.gpr := rfl
@[simp] theorem State.jumpFar_sreg (s : State) (off seg : Word) : (s.jumpFar off seg).sreg = s.sreg.set .cs seg := rfl
@[simp] theorem State.jumpFar_ip (s : State) (off seg : Word) : (s.jumpFar off seg).ip = off := rfl
@[simp] theorem State.jumpFar_flags (s : State) (off seg : Word) : (s.jumpFar off seg).flags = s.flags := rfl
@[simp] theorem State.jumpFar_queue (s : State) (off seg : Word) : (s.jumpFar off seg).queue = [] := rfl
@[simp] theorem State.jumpFar_fetchIp (s : State) (off seg : Word) : (s.jumpFar off seg).fetchIp = off := rfl
@[simp] theorem State.jumpFar_halted (s : State) (off seg : Word) : (s.jumpFar off seg).halted = s.halted := rfl
@[simp] theorem State.jumpFar_internalReq (s : State) (off seg : Word) :
    (s.jumpFar off seg).internalReq = s.internalReq := rfl
@[simp] theorem State.jumpFar_nmiQ (s : State) (off seg : Word) : (s.jumpFar off seg).nmiQ = s.nmiQ := rfl
@[simp] theorem State.jumpFar_intrQ (s : State) (off seg : Word) : (s.jumpFar off seg).intrQ = s.intrQ := rfl
@[simp] theorem State.jumpFar_ssLatch (s : State) (off seg : Word) : (s.jumpFar off seg).ssLatch = s.ssLatch := rfl
@[simp] theorem State.jumpFar_inhibit (s : State) (off seg : Word) : (s.jumpFar off seg).inhibit = s.inhibit := rfl
@[simp] theorem State.jumpFar_rep (s : State) (off seg : Word) : (s.jumpFar off seg).rep = s.rep := rfl
@[simp] theorem State.jumpFar_fault (s : State) (off seg : Word) : (s.jumpFar off seg).fault = s.fault := rfl
@[simp] theorem State.jumpFar_mem (s : State) (off seg : Word) : (s.jumpFar off seg).mem = s.mem := rfl
@[simp] theorem State.jumpFar_params (s : State) (off seg : Word) : (s.jumpFar off seg).params = s.params := rfl
@[simp] theorem State.jumpFar_testAsserted (s : State) (off seg : Word) :
    (s.jumpFar off seg).testAsserted = s.testAsserted := rfl
@[simp] theorem State.jumpFar_pfx (s : State) (off seg : Word) : (s.jumpFar off seg).pfx = s.pfx := rfl
@[simp] theorem State.jumpFar_rejects (s : State) (off seg : Word) : (s.jumpFar off seg).rejects = s.rejects := rfl
@[simp] theorem State.jumpFar_busLog (s : State) (off seg : Word) : (s.jumpFar off seg).busLog = s.busLog := rfl
@[simp] theorem State.jumpFar_draws (s : State) (off seg : Word) : (s.jumpFar off seg).draws = s.draws := rfl

@[simp] theorem State.raise_gpr (s : State) (v : Byte) : (s.raise v).gpr = s.gpr := rfl
@[simp] theorem State.raise_sreg (s : State) (v : Byte) : (s.raise v).sreg = s.sreg := rfl
@[simp] theorem State.raise_ip (s : State) (v : Byte) : (s.raise v).ip = s.ip := rfl
@[simp] theorem State.raise_flags (s : State) (v : Byte) : (s.raise v).flags = s.flags := rfl
@[simp] theorem State.raise_queue (s : State) (v : Byte) : (s.raise v).queue = s.queue := rfl
@[simp] theorem State.raise_fetchIp (s : State) (v : Byte) : (s.raise v).fetchIp = s.fetchIp := rfl
@[simp] theorem State.raise_halted (s : State) (v : Byte) : (s.raise v).halted = s.halted := rfl
@[simp] theorem State.raise_internalReq (s : State) (v : Byte) : (s.raise v).internalReq = some v := rfl
@[simp] theorem State.raise_nmiQ (s : State) (v : Byte) : (s.raise v).nmiQ = s.nmiQ := rfl
@[simp] theorem State.raise_intrQ (s : State) (v : Byte) : (s.raise v).intrQ = s.intrQ := rfl
@[simp] theorem State.raise_ssLatch (s : State) (v : Byte) : (s.raise v).ssLatch = s.ssLatch := rfl
@[simp] theorem State.raise_inhibit (s : State) (v : Byte) : (s.raise v).inhibit = s.inhibit := rfl
@[simp] theorem State.raise_rep (s : State) (v : Byte) : (s.raise v).rep = s.rep := rfl
@[simp] theorem State.raise_fault (s : State) (v : Byte) : (s.raise v).fault = s.fault := rfl
@[simp] theorem State.raise_mem (s : State) (v : Byte) : (s.raise v).mem = s.mem := rfl
@[simp] theorem State.raise_params (s : State) (v : Byte) : (s.raise v).params = s.params := rfl
@[simp] theorem State.raise_testAsserted (s : State) (v : Byte) : (s.raise v).testAsserted = s.testAsserted := rfl
@[simp] theorem State.raise_pfx (s : State) (v : Byte) : (s.raise v).pfx = s.pfx := rfl
@[simp] theorem State.raise_rejects (s : State) (v : Byte) : (s.raise v).rejects = s.rejects := rfl
@[simp] theorem State.raise_busLog (s : State) (v : Byte) : (s.raise v).busLog = s.busLog := rfl
@[simp] theorem State.raise_draws (s : State) (v : Byte) : (s.raise v).draws = s.draws := rfl

@[simp] theorem State.refuse_gpr (s : State) (m : String) : (s.refuse m).gpr = s.gpr := rfl
@[simp] theorem State.refuse_sreg (s : State) (m : String) : (s.refuse m).sreg = s.sreg := rfl
@[simp] theorem State.refuse_ip (s : State) (m : String) : (s.refuse m).ip = s.pfx.start := rfl
@[simp] theorem State.refuse_flags (s : State) (m : String) : (s.refuse m).flags = s.flags := rfl
@[simp] theorem State.refuse_queue (s : State) (m : String) : (s.refuse m).queue = s.queue := rfl
@[simp] theorem State.refuse_fetchIp (s : State) (m : String) : (s.refuse m).fetchIp = s.fetchIp := rfl
@[simp] theorem State.refuse_halted (s : State) (m : String) : (s.refuse m).halted = s.halted := rfl
@[simp] theorem State.refuse_internalReq (s : State) (m : String) : (s.refuse m).internalReq = s.internalReq := rfl
@[simp] theorem State.refuse_nmiQ (s : State) (m : String) : (s.refuse m).nmiQ = s.nmiQ := rfl
@[simp] theorem State.refuse_intrQ (s : State) (m : String) : (s.refuse m).intrQ = s.intrQ := rfl
@[simp] theorem State.refuse_ssLatch (s : State) (m : String) : (s.refuse m).ssLatch = s.ssLatch := rfl
@[simp] theorem State.refuse_inhibit (s : State) (m : String) : (s.refuse m).inhibit = s.inhibit := rfl
@[simp] theorem State.refuse_rep (s : State) (m : String) : (s.refuse m).rep = s.rep := rfl
@[simp] theorem State.refuse_fault (s : State) (m : String) : (s.refuse m).fault = some (.unimplemented m) := rfl
@[simp] theorem State.refuse_mem (s : State) (m : String) : (s.refuse m).mem = s.mem := rfl
@[simp] theorem State.refuse_params (s : State) (m : String) : (s.refuse m).params = s.params := rfl
@[simp] theorem State.refuse_testAsserted (s : State) (m : String) : (s.refuse m).testAsserted = s.testAsserted := rfl
@[simp] theorem State.refuse_pfx (s : State) (m : String) : (s.refuse m).pfx = s.pfx := rfl
@[simp] theorem State.refuse_rejects (s : State) (m : String) : (s.refuse m).rejects = s.rejects := rfl
@[simp] theorem State.refuse_busLog (s : State) (m : String) : (s.refuse m).busLog = s.busLog := rfl
@[simp] theorem State.refuse_draws (s : State) (m : String) : (s.refuse m).draws = s.draws := rfl

@[simp] theorem State.segLoaded_gpr (s : State) : (s.segLoaded).gpr = s.gpr := rfl
@[simp] theorem State.segLoaded_sreg (s : State) : (s.segLoaded).sreg = s.sreg := rfl
@[simp] theorem State.segLoaded_ip (s : State) : (s.segLoaded).ip = s.ip := rfl
@[simp] theorem State.segLoaded_flags (s : State) : (s.segLoaded).flags = s.flags := rfl
@[simp] theorem State.segLoaded_queue (s : State) : (s.segLoaded).queue = s.queue := rfl
@[simp] theorem State.segLoaded_fetchIp (s : State) : (s.segLoaded).fetchIp = s.fetchIp := rfl
@[simp] theorem State.segLoaded_halted (s : State) : (s.segLoaded).halted = s.halted := rfl
@[simp] theorem State.segLoaded_internalReq (s : State) : (s.segLoaded).internalReq = s.internalReq := rfl
@[simp] theorem State.segLoaded_nmiQ (s : State) : (s.segLoaded).nmiQ = s.nmiQ := rfl
@[simp] theorem State.segLoaded_intrQ (s : State) : (s.segLoaded).intrQ = s.intrQ := rfl
@[simp] theorem State.segLoaded_ssLatch (s : State) : (s.segLoaded).ssLatch = s.ssLatch := rfl
@[simp] theorem State.segLoaded_inhibit (s : State) :
    (s.segLoaded).inhibit = (s.inhibit || s.params.segLoadInhibit) := rfl
@[simp] theorem State.segLoaded_rep (s : State) : (s.segLoaded).rep = s.rep := rfl
@[simp] theorem State.segLoaded_fault (s : State) : (s.segLoaded).fault = s.fault := rfl
@[simp] theorem State.segLoaded_mem (s : State) : (s.segLoaded).mem = s.mem := rfl
@[simp] theorem State.segLoaded_params (s : State) : (s.segLoaded).params = s.params := rfl
@[simp] theorem State.segLoaded_testAsserted (s : State) : (s.segLoaded).testAsserted = s.testAsserted := rfl
@[simp] theorem State.segLoaded_pfx (s : State) : (s.segLoaded).pfx = s.pfx := rfl
@[simp] theorem State.segLoaded_rejects (s : State) : (s.segLoaded).rejects = s.rejects := rfl
@[simp] theorem State.segLoaded_busLog (s : State) : (s.segLoaded).busLog = s.busLog := rfl
@[simp] theorem State.segLoaded_draws (s : State) : (s.segLoaded).draws = s.draws := rfl

@[simp] theorem State.aluFlagged_gpr {w : Nat} (s : State) (k : AluOp) (a c : BitVec w) :
    (s.aluFlagged k a c).gpr = s.gpr := rfl
@[simp] theorem State.aluFlagged_sreg {w : Nat} (s : State) (k : AluOp) (a c : BitVec w) :
    (s.aluFlagged k a c).sreg = s.sreg := rfl
@[simp] theorem State.aluFlagged_ip {w : Nat} (s : State) (k : AluOp) (a c : BitVec w) :
    (s.aluFlagged k a c).ip = s.ip := rfl
@[simp] theorem State.aluFlagged_flags {w : Nat} (s : State) (k : AluOp) (a c : BitVec w) :
    (s.aluFlagged k a c).flags = aluFlags k a c (s.freeBit 0) s.flags := rfl
@[simp] theorem State.aluFlagged_queue {w : Nat} (s : State) (k : AluOp) (a c : BitVec w) :
    (s.aluFlagged k a c).queue = s.queue := rfl
@[simp] theorem State.aluFlagged_fetchIp {w : Nat} (s : State) (k : AluOp) (a c : BitVec w) :
    (s.aluFlagged k a c).fetchIp = s.fetchIp := rfl
@[simp] theorem State.aluFlagged_halted {w : Nat} (s : State) (k : AluOp) (a c : BitVec w) :
    (s.aluFlagged k a c).halted = s.halted := rfl
@[simp] theorem State.aluFlagged_internalReq {w : Nat} (s : State) (k : AluOp) (a c : BitVec w) :
    (s.aluFlagged k a c).internalReq = s.internalReq := rfl
@[simp] theorem State.aluFlagged_nmiQ {w : Nat} (s : State) (k : AluOp) (a c : BitVec w) :
    (s.aluFlagged k a c).nmiQ = s.nmiQ := rfl
@[simp] theorem State.aluFlagged_intrQ {w : Nat} (s : State) (k : AluOp) (a c : BitVec w) :
    (s.aluFlagged k a c).intrQ = s.intrQ := rfl
@[simp] theorem State.aluFlagged_ssLatch {w : Nat} (s : State) (k : AluOp) (a c : BitVec w) :
    (s.aluFlagged k a c).ssLatch = s.ssLatch := rfl
@[simp] theorem State.aluFlagged_inhibit {w : Nat} (s : State) (k : AluOp) (a c : BitVec w) :
    (s.aluFlagged k a c).inhibit = s.inhibit := rfl
@[simp] theorem State.aluFlagged_rep {w : Nat} (s : State) (k : AluOp) (a c : BitVec w) :
    (s.aluFlagged k a c).rep = s.rep := rfl
@[simp] theorem State.aluFlagged_fault {w : Nat} (s : State) (k : AluOp) (a c : BitVec w) :
    (s.aluFlagged k a c).fault = s.fault := rfl
@[simp] theorem State.aluFlagged_mem {w : Nat} (s : State) (k : AluOp) (a c : BitVec w) :
    (s.aluFlagged k a c).mem = s.mem := rfl
@[simp] theorem State.aluFlagged_params {w : Nat} (s : State) (k : AluOp) (a c : BitVec w) :
    (s.aluFlagged k a c).params = s.params := rfl
@[simp] theorem State.aluFlagged_testAsserted {w : Nat} (s : State) (k : AluOp) (a c : BitVec w) :
    (s.aluFlagged k a c).testAsserted = s.testAsserted := rfl
@[simp] theorem State.aluFlagged_pfx {w : Nat} (s : State) (k : AluOp) (a c : BitVec w) :
    (s.aluFlagged k a c).pfx = s.pfx := rfl
@[simp] theorem State.aluFlagged_rejects {w : Nat} (s : State) (k : AluOp) (a c : BitVec w) :
    (s.aluFlagged k a c).rejects = s.rejects := rfl
@[simp] theorem State.aluFlagged_busLog {w : Nat} (s : State) (k : AluOp) (a c : BitVec w) :
    (s.aluFlagged k a c).busLog = s.busLog := rfl
@[simp] theorem State.aluFlagged_draws {w : Nat} (s : State) (k : AluOp) (a c : BitVec w) :
    (s.aluFlagged k a c).draws = s.draws + bif k.drawsAf then 1 else 0 := rfl

@[simp] theorem State.withBiu_gpr (s t : State) : (s.withBiu t).gpr = s.gpr := rfl
@[simp] theorem State.withBiu_sreg (s t : State) : (s.withBiu t).sreg = s.sreg := rfl
@[simp] theorem State.withBiu_ip (s t : State) : (s.withBiu t).ip = s.ip := rfl
@[simp] theorem State.withBiu_flags (s t : State) : (s.withBiu t).flags = s.flags := rfl
@[simp] theorem State.withBiu_queue (s t : State) : (s.withBiu t).queue = t.queue := rfl
@[simp] theorem State.withBiu_fetchIp (s t : State) : (s.withBiu t).fetchIp = t.fetchIp := rfl
@[simp] theorem State.withBiu_halted (s t : State) : (s.withBiu t).halted = s.halted := rfl
@[simp] theorem State.withBiu_internalReq (s t : State) : (s.withBiu t).internalReq = s.internalReq := rfl
@[simp] theorem State.withBiu_nmiQ (s t : State) : (s.withBiu t).nmiQ = s.nmiQ := rfl
@[simp] theorem State.withBiu_intrQ (s t : State) : (s.withBiu t).intrQ = s.intrQ := rfl
@[simp] theorem State.withBiu_ssLatch (s t : State) : (s.withBiu t).ssLatch = s.ssLatch := rfl
@[simp] theorem State.withBiu_inhibit (s t : State) : (s.withBiu t).inhibit = s.inhibit := rfl
@[simp] theorem State.withBiu_rep (s t : State) : (s.withBiu t).rep = s.rep := rfl
@[simp] theorem State.withBiu_fault (s t : State) : (s.withBiu t).fault = s.fault := rfl
@[simp] theorem State.withBiu_mem (s t : State) : (s.withBiu t).mem = s.mem := rfl
@[simp] theorem State.withBiu_params (s t : State) : (s.withBiu t).params = s.params := rfl
@[simp] theorem State.withBiu_testAsserted (s t : State) : (s.withBiu t).testAsserted = s.testAsserted := rfl
@[simp] theorem State.withBiu_pfx (s t : State) : (s.withBiu t).pfx = s.pfx := rfl
@[simp] theorem State.withBiu_rejects (s t : State) : (s.withBiu t).rejects = s.rejects := rfl
@[simp] theorem State.withBiu_busLog (s t : State) : (s.withBiu t).busLog = t.busLog := rfl
@[simp] theorem State.withBiu_draws (s t : State) : (s.withBiu t).draws = t.draws := rfl

@[simp] theorem State.putByte_gpr (s : State) (seg off : Word) (v : Byte) : (s.putByte seg off v).gpr = s.gpr := rfl
@[simp] theorem State.putByte_sreg (s : State) (seg off : Word) (v : Byte) : (s.putByte seg off v).sreg = s.sreg := rfl
@[simp] theorem State.putByte_ip (s : State) (seg off : Word) (v : Byte) : (s.putByte seg off v).ip = s.ip := rfl
@[simp] theorem State.putByte_flags (s : State) (seg off : Word) (v : Byte) :
    (s.putByte seg off v).flags = s.flags := rfl
@[simp] theorem State.putByte_queue (s : State) (seg off : Word) (v : Byte) :
    (s.putByte seg off v).queue = s.queue := rfl
@[simp] theorem State.putByte_fetchIp (s : State) (seg off : Word) (v : Byte) :
    (s.putByte seg off v).fetchIp = s.fetchIp := rfl
@[simp] theorem State.putByte_halted (s : State) (seg off : Word) (v : Byte) :
    (s.putByte seg off v).halted = s.halted := rfl
@[simp] theorem State.putByte_internalReq (s : State) (seg off : Word) (v : Byte) :
    (s.putByte seg off v).internalReq = s.internalReq := rfl
@[simp] theorem State.putByte_nmiQ (s : State) (seg off : Word) (v : Byte) : (s.putByte seg off v).nmiQ = s.nmiQ := rfl
@[simp] theorem State.putByte_intrQ (s : State) (seg off : Word) (v : Byte) :
    (s.putByte seg off v).intrQ = s.intrQ := rfl
@[simp] theorem State.putByte_ssLatch (s : State) (seg off : Word) (v : Byte) :
    (s.putByte seg off v).ssLatch = s.ssLatch := rfl
@[simp] theorem State.putByte_inhibit (s : State) (seg off : Word) (v : Byte) :
    (s.putByte seg off v).inhibit = s.inhibit := rfl
@[simp] theorem State.putByte_rep (s : State) (seg off : Word) (v : Byte) : (s.putByte seg off v).rep = s.rep := rfl
@[simp] theorem State.putByte_fault (s : State) (seg off : Word) (v : Byte) :
    (s.putByte seg off v).fault = s.fault := rfl
@[simp] theorem State.putByte_mem (s : State) (seg off : Word) (v : Byte) :
    (s.putByte seg off v).mem = s.mem.write (phys seg off) v := rfl
@[simp] theorem State.putByte_params (s : State) (seg off : Word) (v : Byte) :
    (s.putByte seg off v).params = s.params := rfl
@[simp] theorem State.putByte_testAsserted (s : State) (seg off : Word) (v : Byte) :
    (s.putByte seg off v).testAsserted = s.testAsserted := rfl
@[simp] theorem State.putByte_pfx (s : State) (seg off : Word) (v : Byte) : (s.putByte seg off v).pfx = s.pfx := rfl
@[simp] theorem State.putByte_rejects (s : State) (seg off : Word) (v : Byte) :
    (s.putByte seg off v).rejects = s.rejects := rfl
@[simp] theorem State.putByte_busLog (s : State) (seg off : Word) (v : Byte) :
    (s.putByte seg off v).busLog = s.busLog := rfl
@[simp] theorem State.putByte_draws (s : State) (seg off : Word) (v : Byte) :
    (s.putByte seg off v).draws = s.draws := rfl

@[simp] theorem State.putWord_gpr (s : State) (seg off v : Word) : (s.putWord seg off v).gpr = s.gpr := rfl
@[simp] theorem State.putWord_sreg (s : State) (seg off v : Word) : (s.putWord seg off v).sreg = s.sreg := rfl
@[simp] theorem State.putWord_ip (s : State) (seg off v : Word) : (s.putWord seg off v).ip = s.ip := rfl
@[simp] theorem State.putWord_flags (s : State) (seg off v : Word) : (s.putWord seg off v).flags = s.flags := rfl
@[simp] theorem State.putWord_queue (s : State) (seg off v : Word) : (s.putWord seg off v).queue = s.queue := rfl
@[simp] theorem State.putWord_fetchIp (s : State) (seg off v : Word) : (s.putWord seg off v).fetchIp = s.fetchIp := rfl
@[simp] theorem State.putWord_halted (s : State) (seg off v : Word) : (s.putWord seg off v).halted = s.halted := rfl
@[simp] theorem State.putWord_internalReq (s : State) (seg off v : Word) :
    (s.putWord seg off v).internalReq = s.internalReq := rfl
@[simp] theorem State.putWord_nmiQ (s : State) (seg off v : Word) : (s.putWord seg off v).nmiQ = s.nmiQ := rfl
@[simp] theorem State.putWord_intrQ (s : State) (seg off v : Word) : (s.putWord seg off v).intrQ = s.intrQ := rfl
@[simp] theorem State.putWord_ssLatch (s : State) (seg off v : Word) : (s.putWord seg off v).ssLatch = s.ssLatch := rfl
@[simp] theorem State.putWord_inhibit (s : State) (seg off v : Word) : (s.putWord seg off v).inhibit = s.inhibit := rfl
@[simp] theorem State.putWord_rep (s : State) (seg off v : Word) : (s.putWord seg off v).rep = s.rep := rfl
@[simp] theorem State.putWord_fault (s : State) (seg off v : Word) : (s.putWord seg off v).fault = s.fault := rfl
@[simp] theorem State.putWord_mem (s : State) (seg off v : Word) :
    (s.putWord seg off v).mem = (s.mem.write (phys seg off) (lowByte v)).write (phys seg (off + 1)) (highByte v) := rfl
@[simp] theorem State.putWord_params (s : State) (seg off v : Word) : (s.putWord seg off v).params = s.params := rfl
@[simp] theorem State.putWord_testAsserted (s : State) (seg off v : Word) :
    (s.putWord seg off v).testAsserted = s.testAsserted := rfl
@[simp] theorem State.putWord_pfx (s : State) (seg off v : Word) : (s.putWord seg off v).pfx = s.pfx := rfl
@[simp] theorem State.putWord_rejects (s : State) (seg off v : Word) : (s.putWord seg off v).rejects = s.rejects := rfl
@[simp] theorem State.putWord_busLog (s : State) (seg off v : Word) : (s.putWord seg off v).busLog = s.busLog := rfl
@[simp] theorem State.putWord_draws (s : State) (seg off v : Word) : (s.putWord seg off v).draws = s.draws := rfl

@[simp] theorem Gprs.get_set_same (g : Gprs) (r : Reg16) (v : Word) : (g.set r v).get r = v := by cases r <;> rfl

theorem Gprs.get_set_other (g : Gprs) {r q : Reg16} (v : Word) (h : q ≠ r) : (g.set r v).get q = g.get q := by
  cases r <;> cases q <;> first | rfl | exact absurd rfl h

@[simp] theorem Gprs.set_get_self (g : Gprs) (r : Reg16) : g.set r (g.get r) = g := by cases r <;> rfl

@[simp] theorem Sregs.get_set_same (g : Sregs) (r : SReg) (v : Word) : (g.set r v).get r = v := by cases r <;> rfl

theorem Sregs.get_set_other (g : Sregs) {r q : SReg} (v : Word) (h : q ≠ r) : (g.set r v).get q = g.get q := by
  cases r <;> cases q <;> first | rfl | exact absurd rfl h

/-- Two bytes as a number. -/
theorem wordOf_toNat (h l : Byte) : (wordOf h l).toNat = h.toNat * 256 + l.toNat := by
  simp only [wordOf, BitVec.toNat_append]
  rw [← Nat.shiftLeft_add_eq_or_of_lt l.isLt, Nat.shiftLeft_eq]

@[simp] theorem lowByte_wordOf (h l : Byte) : lowByte (wordOf h l) = l := by
  apply BitVec.eq_of_toNat_eq
  simp only [lowByte, BitVec.extractLsb'_toNat, wordOf_toNat, Nat.shiftRight_zero]
  have := l.isLt
  omega

@[simp] theorem highByte_wordOf (h l : Byte) : highByte (wordOf h l) = h := by
  apply BitVec.eq_of_toNat_eq
  simp only [highByte, BitVec.extractLsb'_toNat, wordOf_toNat, Nat.shiftRight_eq_div_pow]
  have := l.isLt
  have := h.isLt
  omega

@[simp] theorem wordOf_bytes (v : Word) : wordOf (highByte v) (lowByte v) = v := by
  apply BitVec.eq_of_toNat_eq
  simp only [wordOf_toNat, highByte, lowByte, BitVec.extractLsb'_toNat, Nat.shiftRight_eq_div_pow]
  have := v.isLt
  omega

@[simp] theorem Gprs.get8_set8_same (g : Gprs) (r : Reg8) (v : Byte) : (g.set8 r v).get8 r = v := by
  cases r <;> simp [Gprs.set8, Gprs.get8, isHighHalf]

end Sys2Proof.Machine
end

