-- ==== Sys2Proof/Laws/Memory.lean ====
section
/-! SUPPORT. What the two operations over memory do: a write keeps the canonical form, a read sees the most recent write, and
every other byte stays. -/

namespace Sys2Proof.Machine

/-- A canonical list above `lo` is canonical above anything lower. -/
theorem Memory.wfFrom_mono {lo lo' : Nat} {m : Memory} (h : lo' ≤ lo) (hm : m.wfFrom lo = true) :
    m.wfFrom lo' = true := by
  cases m with
  | nil => rfl
  | cons c r =>
    simp only [Memory.wfFrom, Bool.and_eq_true, decide_eq_true_eq] at hm ⊢
    exact ⟨⟨⟨h.trans hm.1.1.1, hm.1.1.2⟩, hm.1.2⟩, hm.2⟩

/-- An address below a canonical list is not listed. -/
theorem Memory.read_of_lt {lo : Nat} {m : Memory} {a : Addr} (hm : m.wfFrom lo = true) (h : a.toNat < lo) :
    m.read a = Memory.unlisted := by
  induction m generalizing lo with
  | nil => rfl
  | cons c r ih =>
    obtain ⟨k, b⟩ := c
    simp only [Memory.wfFrom, Bool.and_eq_true, decide_eq_true_eq] at hm
    rw [Memory.read, if_neg (by omega)]
    exact ih hm.2 (by omega)

/-- A write keeps the canonical form. -/
theorem Memory.write_wfFrom {lo : Nat} {m : Memory} {a : Addr} (v : Byte) (h : lo ≤ a.toNat)
    (hm : m.wfFrom lo = true) : (m.write a v).wfFrom lo = true := by
  induction m generalizing lo with
  | nil =>
    rw [Memory.write]
    split
    · rfl
    · simp [Memory.wfFrom, a.isLt, *]
  | cons c r ih =>
    obtain ⟨k, b⟩ := c
    simp only [Memory.wfFrom, Bool.and_eq_true, decide_eq_true_eq] at hm
    have hk : k < 1048576 := hm.1.1.2
    rw [Memory.write]
    split <;> rename_i h1
    · split <;> rename_i hv
      · simp [Memory.wfFrom, hk, hm]
      · simp [Memory.wfFrom, hk, hm, hv, a.isLt, h, Nat.succ_le_of_lt h1]
    · split <;> rename_i h2
      · split <;> rename_i hv
        · exact Memory.wfFrom_mono (by omega) hm.2
        · simp [Memory.wfFrom, hk, hm, hv]
      · simp [Memory.wfFrom, hk, hm, ih (lo := k + 1) (by omega) hm.2]

@[simp] theorem Memory.write_wf {m : Memory} (a : Addr) (v : Byte) (hm : m.wf = true) : (m.write a v).wf = true :=
  Memory.write_wfFrom v (Nat.zero_le _) hm

/-- Every other byte reads as before, whatever the form of the list. -/
theorem Memory.read_write_other (m : Memory) {a b : Addr} (v : Byte) (h : b ≠ a) : (m.write a v).read b = m.read b := by
  have hn : a.toNat ≠ b.toNat := fun e => h (BitVec.eq_of_toNat_eq e.symm)
  induction m with
  | nil =>
    rw [Memory.write]
    split
    · rfl
    · simp [Memory.read, hn]
  | cons c r ih =>
    obtain ⟨k, x⟩ := c
    rw [Memory.write]
    split
    · split
      · rfl
      · simp [Memory.read, hn]
    · split <;> rename_i h2
      · subst h2
        split <;> simp [Memory.read, hn]
      · simp [Memory.read, ih]

/-- The byte written is read back. -/
theorem Memory.read_write_same {lo : Nat} {m : Memory} {a : Addr} (v : Byte) (hm : m.wfFrom lo = true) :
    (m.write a v).read a = v := by
  induction m generalizing lo with
  | nil =>
    rw [Memory.write]
    split <;> simp [Memory.read, *]
  | cons c r ih =>
    obtain ⟨k, x⟩ := c
    simp only [Memory.wfFrom, Bool.and_eq_true, decide_eq_true_eq] at hm
    rw [Memory.write]
    split <;> rename_i h1
    · split <;> rename_i hv
      · rw [Memory.read, if_neg (by omega), Memory.read_of_lt hm.2 (by omega), hv]
      · simp [Memory.read]
    · split <;> rename_i h2
      · split <;> rename_i hv
        · rw [Memory.read_of_lt hm.2 (by omega), hv]
        · simp [Memory.read, h2]
      · rw [Memory.read, if_neg (by omega)]
        exact ih hm.2

/-- Memory is canonical at reset. -/
theorem State.reset_mem_wf : State.reset.mem.wf = true := rfl

/-- The bytes of a table word are placed in canonical memory. -/
theorem placeBytes_wf {seg off : Word} {bs : List Byte} {m : Memory} (hm : m.wf = true) :
    (placeBytes seg off bs m).wf = true := by
  induction bs generalizing off m with
  | nil => exact hm
  | cons b bs ih => exact ih (Memory.write_wf _ _ hm)

theorem State.putByte_mem_wf {s : State} (seg off : Word) (v : Byte) (h : s.mem.wf = true) :
    (s.putByte seg off v).mem.wf = true := Memory.write_wf _ _ h

theorem State.putWord_mem_wf {s : State} (seg off v : Word) (h : s.mem.wf = true) :
    (s.putWord seg off v).mem.wf = true := Memory.write_wf _ _ (Memory.write_wf _ _ h)

end Sys2Proof.Machine
end

