-- ==== Sys2Proof/Laws/Bus.lean ====
section
/-! SUPPORT. What the operations over the bus can do, said once for each: with any collaborator (`..._post`: a value and a
state, or a stop with the bus fault) and with one that accepts (`..._ok`). -/

namespace Sys2Proof.Machine

/-! ## Postconditions -/

/-- `r` answers a value and a state that satisfy `Q`, or stops in a state that satisfies `E`. -/
def Res.Post {α : Type} (r : Res α) (Q : α → State → Prop) (E : State → Prop) : Prop :=
  match r with
  | .ok a t => Q a t
  | .stop t => E t

theorem Res.Post.bind {α β : Type} {r : Res α} {f : α → State → Res β} {Q : α → State → Prop}
    {Q' : β → State → Prop} {E : State → Prop} (h : r.Post Q E) (hf : ∀ a t, Q a t → (f a t).Post Q' E) :
    (r.bind f).Post Q' E := by
  cases r with
  | ok a t => exact hf a t h
  | stop t => exact h

theorem Res.Post.mono {α : Type} {r : Res α} {Q Q' : α → State → Prop} {E E' : State → Prop} (h : r.Post Q E)
    (hq : ∀ a t, Q a t → Q' a t) (he : ∀ t, E t → E' t) : r.Post Q' E' := by
  cases r with
  | ok a t => exact hq a t h
  | stop t => exact he t h

/-- What holds of every state `r` can end in holds of the state it ends in. -/
theorem Res.Post.of_state {α : Type} {r : Res α} {I : State → Prop} (h : r.Post (fun _ t => I t) I) : I r.state := by
  cases r <;> exact h

/-- A transaction that only reads memory: a fetch or a data read. -/
def BusOp.isMemRead : BusOp → Bool
  | .fetch _ _ | .read _ _ => true
  | .write _ _ | .portRead8 _ _ | .portRead16 _ _ | .portWrite8 _ _ | .portWrite16 _ _ => false

/-- From `s` to `t` nothing but the BIU's fields has changed, by memory reads only, and the queue stays in step with the fetch
cursor. -/
structure Quiet (s t : State) : Prop where
  frame : t = s.withBiu t
  log : ∃ l, t.busLog = l ++ s.busLog ∧ ∀ o ∈ l, o.isMemRead = true
  cursor : ∃ k, t.queue.length = s.queue.length + k ∧ t.fetchIp = s.fetchIp + BitVec.ofNat 16 k ∧
    (k = 0 ∨ t.queue.length ≤ Config.queueSize)

theorem State.withBiu_self (s : State) : s.withBiu s = s := rfl

@[simp] theorem State.withBiu_withBiu (s t u : State) : (s.withBiu t).withBiu u = s.withBiu u := rfl

theorem Quiet.refl (s : State) : Quiet s s :=
  ⟨rfl, ⟨[], rfl, by simp⟩, ⟨0, rfl, by simp, .inl rfl⟩⟩

theorem Quiet.trans {s t u : State} (h : Quiet s t) (g : Quiet t u) : Quiet s u := by
  obtain ⟨l, hl, pl⟩ := h.log
  obtain ⟨l', hl', pl'⟩ := g.log
  obtain ⟨k, hk, ck, bk⟩ := h.cursor
  obtain ⟨k', hk', ck', bk'⟩ := g.cursor
  refine ⟨?_, ⟨l' ++ l, by rw [hl', hl, List.append_assoc], ?_⟩, ⟨k + k', by omega, ?_, by omega⟩⟩
  · have e := g.frame
    rw [h.frame] at e
    exact e
  · intro o ho
    rcases List.mem_append.1 ho with ho | ho
    exacts [pl' o ho, pl o ho]
  · rw [ck', ck, BitVec.add_assoc, BitVec.ofNat_add]

/-- What a quiet step leaves alone. -/
theorem Quiet.keeps {s t : State} (h : Quiet s t) :
    t.gpr = s.gpr ∧ t.sreg = s.sreg ∧ t.ip = s.ip ∧ t.flags = s.flags ∧ t.mem = s.mem ∧ t.rejects = s.rejects
      ∧ t.pfx = s.pfx ∧ t.params = s.params ∧ t.rep = s.rep ∧ t.fault = s.fault := by
  rw [h.frame]
  exact ⟨rfl, rfl, rfl, rfl, rfl, rfl, rfl, rfl, rfl, rfl⟩

/-- The state of a unit that a rejected access stopped: quiet until then, with the bus fault (60_exceptions.md R202). -/
def BusStop (s t : State) : Prop := ∃ u, t = u.busFault ∧ u = s.withBiu u ∧ ∃ l, u.busLog = l ++ s.busLog ∧
  ∀ o ∈ l, o.isMemRead = true

theorem Quiet.busStop {s t u : State} (h : Quiet s t) (g : BusStop t u) : BusStop s u := by
  obtain ⟨v, rfl, e, l, hl, pl⟩ := g
  obtain ⟨l', hl', pl'⟩ := h.log
  refine ⟨v, rfl, ?_, l ++ l', by rw [hl, hl', List.append_assoc], ?_⟩
  · rw [h.frame] at e
    exact e
  · intro o ho
    rcases List.mem_append.1 ho with ho | ho
    exacts [pl o ho, pl' o ho]

/-! ## Fetching and fill points (20_memory.md R57, R58) -/

theorem State.fetchOps_isMemRead (s : State) (k : Nat) : ∀ o ∈ s.fetchOps k, o.isMemRead = true := by
  intro o ho
  simp only [State.fetchOps, List.mem_reverse, List.mem_map] at ho
  obtain ⟨j, -, rfl⟩ := ho
  rfl

theorem State.fetchBytes_length (s : State) (k : Nat) : (s.fetchBytes k).length = k := by simp [State.fetchBytes]

/-- Appending `k` bytes, when they fit the queue. -/
theorem Quiet.appended (s : State) (k : Nat) (h : k = 0 ∨ s.queue.length + k ≤ Config.queueSize) :
    Quiet s (s.appended k) :=
  ⟨rfl, ⟨_, rfl, s.fetchOps_isMemRead k⟩, ⟨k, by simp [State.fetchBytes_length], rfl, by simp [State.fetchBytes_length, h]⟩⟩

theorem Quiet.drew (s : State) (n : Nat) : Quiet s (s.drew n) :=
  ⟨rfl, ⟨[], rfl, by simp⟩, ⟨0, rfl, by simp, .inl rfl⟩⟩

theorem State.busStop_appended (s : State) (k : Nat) : BusStop s (s.appended k).busFault :=
  ⟨_, rfl, rfl, _, rfl, s.fetchOps_isMemRead k⟩

/-- The bytes a fill point appends fit the queue. -/
theorem State.fillCount_le (s : State) : s.fillCount = 0 ∨ s.queue.length + s.fillCount ≤ Config.queueSize := by
  have h : s.fillCount < Config.queueSize - s.queue.length + 1 := Nat.mod_lt _ (by omega)
  omega

theorem prefetch_post (k : Nat) (s : State) :
    (prefetch k s).Post (fun _ t => t = s.appended k) (BusStop s) := by
  unfold prefetch
  split
  · exact s.busStop_appended _
  · exact rfl

/-- The fetches before the first rejected one are made, the others are not (60_exceptions.md R202, decision D47). -/
theorem State.acceptedFetches_of_first {s : State} {j k : Nat} (h : s.firstRejectedFetch j) (hk : j < k) :
    s.acceptedFetches k = j := by
  obtain ⟨hb, hj⟩ := h
  obtain ⟨m, rfl⟩ : ∃ m, k = j + (m + 1) := ⟨k - j - 1, by omega⟩
  have hp : ∀ i ∈ List.range j,
      (!s.rejectedAt (s.busLog.length + i) .memory false (s.fetchAddr i).toNat) = true := by
    intro i hi
    simp [hb i (List.mem_range.1 hi)]
  rw [State.acceptedFetches, List.range_add, List.takeWhile_append_of_pos hp, List.range_succ_eq_map, List.map_cons,
    Nat.add_zero, List.takeWhile_cons_of_neg (by simp [hj])]
  simp

theorem prefetch_rejected {s : State} {j k : Nat} (h : s.firstRejectedFetch j) (hk : j < k) :
    prefetch k s = .stop (s.appended j).busFault := by
  have hr : s.fetchRejected k = true := by
    obtain ⟨r, hr, hc⟩ := List.any_eq_true.1 h.2
    exact List.any_eq_true.2 ⟨r, hr, List.any_eq_true.2 ⟨j, List.mem_range.2 hk, hc⟩⟩
  rw [prefetch, if_pos hr, State.acceptedFetches_of_first h hk]

/-- A fill point is quiet, or stops with the bus fault. -/
theorem fill_post (s : State) : (fill s).Post (fun _ t => Quiet s t) (BusStop s) := by
  refine (prefetch_post s.fillCount (s.drew 1)).mono ?_ fun t h => (Quiet.drew s 1).busStop h
  rintro _ _ rfl
  exact (Quiet.drew s 1).trans (Quiet.appended _ _ s.fillCount_le)

theorem fillPoint_post (ph : Phase) (s : State) : (fillPoint ph s).Post (fun _ t => Quiet s t) (BusStop s) := by
  cases ph with
  | exec => exact fill_post s
  | entry => exact Quiet.refl s

/-! ## Data transactions (00_scope.md R13, 20_memory.md R47, R48) -/

theorem Quiet.log_read (s : State) (a : Addr) (v : Byte) : Quiet s (s.log (.read a v)) :=
  ⟨rfl, ⟨[_], rfl, by simp [BusOp.isMemRead]⟩, ⟨0, rfl, by simp, .inl rfl⟩⟩

theorem BusStop.refl (s : State) : BusStop s s.busFault := ⟨s, rfl, rfl, [], rfl, by simp⟩

/-- A byte read supplies the byte of memory and is quiet, or stops with the bus fault. -/
theorem memRead_post (ph : Phase) (a : Addr) (s : State) :
    (memRead ph a s).Post (fun v t => v = s.mem.read a ∧ Quiet s t) (BusStop s) := by
  refine (fillPoint_post ph s).bind fun _ t h => ?_
  split
  · exact h.busStop (BusStop.refl t)
  · exact ⟨by rw [h.keeps.2.2.2.2.1], h.trans (Quiet.log_read t a _)⟩

/-- A word read supplies the word, its high byte at the next offset, and is quiet, or stops with the bus fault. -/
theorem load16_post (ph : Phase) (seg off : Word) (s : State) :
    (load16 ph seg off s).Post (fun v t => v = s.wordAt seg off ∧ Quiet s t) (BusStop s) := by
  refine (memRead_post ph _ s).bind ?_
  rintro lo t ⟨rfl, h⟩
  refine ((memRead_post ph _ t).mono (fun _ _ => id) fun u g => h.busStop g).bind ?_
  rintro hi u ⟨rfl, g⟩
  exact ⟨by simp [State.wordAt, State.byteAt, h.keeps.2.2.2.2.1], h.trans g⟩

/-- A byte write: quiet up to the write, which it records, or a stop with the bus fault and nothing written. -/
theorem memWrite_post (ph : Phase) (a : Addr) (v : Byte) (s : State) :
    (memWrite ph a v s).Post
      (fun _ t => ∃ u, Quiet s u ∧ t = ({ u with mem := u.mem.write a v } : State).log (.write a v)) (BusStop s) := by
  refine (fillPoint_post ph s).bind fun _ t h => ?_
  split
  · exact h.busStop (BusStop.refl t)
  · exact ⟨t, h, rfl⟩

/-- A pop supplies the top of the stack with SP up by 2, or stops with the bus fault (40_data_transfer.md R79). -/
theorem pop16_post (s : State) :
    (pop16 s).Post (fun v t => v = s.wordAt s.sreg.ss s.gpr.sp ∧ ∃ u, Quiet s u ∧ t = u.setReg16 .sp (s.gpr.sp + 2))
      (BusStop s) := by
  refine (load16_post .exec _ _ s).bind ?_
  rintro v t ⟨rfl, h⟩
  exact ⟨rfl, t, h, by rw [h.keeps.1]⟩

/-! ## With a collaborator that accepts -/

theorem State.accepts_of_eq {s t : State} (h : s.accepts) (e : t.rejects = s.rejects) : t.accepts := by
  intro n sp wr a
  have := h n sp wr a
  rw [State.rejectedAt] at this ⊢
  rwa [e]

theorem State.accepts.rejected {s : State} (h : s.accepts) (sp : Space) (wr : Bool) (a : Nat) :
    s.rejected sp wr a = false := h _ sp wr a

theorem State.reset_accepts : State.reset.accepts := fun _ _ _ _ => rfl

theorem State.accepts.fetchRejected {s : State} (h : s.accepts) (k : Nat) : s.fetchRejected k = false := by
  rw [State.fetchRejected, List.any_eq_false]
  intro r hr hc
  obtain ⟨j, -, hj⟩ := List.any_eq_true.1 hc
  exact absurd (h _ .memory false _) (by rw [State.rejectedAt, Bool.not_eq_false, List.any_eq_true]; exact ⟨r, hr, hj⟩)

theorem prefetch_ok {s : State} (h : s.accepts) (k : Nat) : prefetch k s = .ok () (s.appended k) := by
  rw [prefetch, if_neg (by simp [h.fetchRejected])]

theorem fill_ok {s : State} (h : s.accepts) : fill s = .ok () ((s.drew 1).appended s.fillCount) :=
  prefetch_ok (s := s.drew 1) (State.accepts_of_eq h rfl) _

theorem fillPoint_ok {s : State} (ph : Phase) (h : s.accepts) : ∃ t, fillPoint ph s = .ok () t ∧ t = s.withBiu t := by
  cases ph with
  | exec => exact ⟨_, fill_ok h, rfl⟩
  | entry => exact ⟨s, rfl, rfl⟩

theorem memRead_ok {s : State} (ph : Phase) (a : Addr) (h : s.accepts) :
    ∃ t, memRead ph a s = .ok (s.mem.read a) t ∧ t = s.withBiu t := by
  obtain ⟨t, e, ht⟩ := fillPoint_ok ph h
  have hm : t.mem = s.mem := by rw [ht]; rfl
  have hr : t.accepts := State.accepts_of_eq h (by rw [ht]; rfl)
  refine ⟨t.log (.read a (t.mem.read a)), ?_, ?_⟩
  · rw [memRead, e, Res.bind, if_neg (by simp [hr.rejected .memory false a.toNat]), hm]
  · rw [ht]; rfl

theorem memWrite_ok {s : State} (ph : Phase) (a : Addr) (v : Byte) (h : s.accepts) :
    ∃ t, memWrite ph a v s = .ok () t ∧ t = ({ s with mem := s.mem.write a v } : State).withBiu t := by
  obtain ⟨t, e, ht⟩ := fillPoint_ok ph h
  have hr : t.accepts := State.accepts_of_eq h (by rw [ht]; rfl)
  refine ⟨({ t with mem := t.mem.write a v } : State).log (.write a v), ?_, ?_⟩
  · rw [memWrite, e, Res.bind, if_neg (by simp [hr.rejected .memory true a.toNat])]
  · rw [ht]; rfl

/-- A unit stopped by UNDOC_POLICY = refuse, or the body (47_undocumented.md R183). -/
theorem undocumented_cases (m : String) (body : State → Res Unit) (s : State) :
    (s.params.undoc = .emulate ∧ undocumented m body s = body s)
      ∨ (s.params.undoc = .refuse ∧ undocumented m body s = .stop (s.refuse m)) := by
  unfold undocumented
  cases s.params.undoc
  · exact .inr ⟨rfl, rfl⟩
  · exact .inl ⟨rfl, rfl⟩

/-- What the priority order takes consumes one pending request and changes nothing but the pending fields
(60_exceptions.md R210). -/
theorem takeRequest_some {s t : State} {v : Byte} (h : takeRequest s = some (v, t)) :
    s.pending = t.pending + 1 ∧ t = { s with
      internalReq := t.internalReq, nmiQ := t.nmiQ, intrQ := t.intrQ, ssLatch := t.ssLatch } := by
  unfold takeRequest at h
  split at h
  · obtain ⟨-, rfl⟩ := by simpa using h
    simp [State.pending, *]; omega
  · split at h
    · cases h
    · split at h
      · obtain ⟨-, rfl⟩ := by simpa using h
        simp [State.pending, *]; omega
      · split at h
        · obtain ⟨-, rfl⟩ := by simpa using h
          simp [State.pending, *]; omega
        · split at h
          · obtain ⟨-, rfl⟩ := by simpa using h
            simp [State.pending, *]
          · cases h

end Sys2Proof.Machine
end

