-- ==== Sys2Proof/Laws/PerInstr.lean ====
section
/-! SUPPORT. A statement about every instruction as syntax, one lemma per constructor: an encoding has 1 to 6 bytes
(30_encoding.md R62, R72). -/

namespace Sys2Proof.Laws.EncodedLength

/-- The instruction, without prefixes, has 1 to `maxInstrBytes` bytes (30_encoding.md R62). -/
def Statement (i : Instr) : Prop := 1 ≤ (encode i).length ∧ (encode i).length ≤ maxInstrBytes

/-- ModRM and displacement of a memory operand take 1 to 3 bytes (30_encoding.md R65). -/
theorem length_encMem (reg : BitVec 3) (m : Mem) : 1 ≤ (encMem reg m).length ∧ (encMem reg m).length ≤ 3 := by
  cases m <;> simp [encMem, wordBytes]

theorem length_encRm8 (reg : BitVec 3) (e : Rm8) : 1 ≤ (encRm8 reg e).length ∧ (encRm8 reg e).length ≤ 3 := by
  cases e with
  | reg r => simp [encRm8]
  | mem m => exact length_encMem reg m

theorem length_encRm16 (reg : BitVec 3) (e : Rm16) : 1 ≤ (encRm16 reg e).length ∧ (encRm16 reg e).length ≤ 3 := by
  cases e with
  | reg r => simp [encRm16]
  | mem m => exact length_encMem reg m

/-- An opcode byte, an operand, and an immediate of at most two bytes. -/
theorem op_rm_imm {b : Byte} {l k : List Byte} (h : 1 ≤ l.length ∧ l.length ≤ 3) (hk : k.length ≤ 2) :
    1 ≤ (b :: l ++ k).length ∧ (b :: l ++ k).length ≤ maxInstrBytes := by
  simp only [List.length_append, List.length_cons, maxInstrBytes]
  omega

/-- An opcode byte and an operand. -/
theorem op_rm {b : Byte} {l : List Byte} (h : 1 ≤ l.length ∧ l.length ≤ 3) :
    1 ≤ (b :: l).length ∧ (b :: l).length ≤ maxInstrBytes := by
  simp only [List.length_cons, maxInstrBytes]
  omega

/-- Encodings without a ModRM byte: an opcode byte alone, with a byte, with a word, with a far pointer. -/
theorem op (a : Byte) : 1 ≤ [a].length ∧ [a].length ≤ maxInstrBytes := by simp [maxInstrBytes]

theorem op_byte (a b : Byte) : 1 ≤ [a, b].length ∧ [a, b].length ≤ maxInstrBytes := by simp [maxInstrBytes]

theorem op_word (a : Byte) (v : Word) : 1 ≤ (a :: wordBytes v).length ∧ (a :: wordBytes v).length ≤ maxInstrBytes := by
  simp [wordBytes, maxInstrBytes]

theorem op_far (a : Byte) (v u : Word) :
    1 ≤ (a :: wordBytes v ++ wordBytes u).length ∧ (a :: wordBytes v ++ wordBytes u).length ≤ maxInstrBytes := by
  simp [wordBytes, maxInstrBytes]

theorem length_encAlu (k : BitVec 3) (f : AluForm) : 1 ≤ (encAlu k f).length ∧ (encAlu k f).length ≤ maxInstrBytes := by
  cases f with
  | ebGb e g | gbEb g e => exact op_rm (length_encRm8 _ _)
  | evGv e g | gvEv g e => exact op_rm (length_encRm16 _ _)
  | alIb i | axIv i => simp [encAlu, wordBytes, maxInstrBytes]
  | ebIb e i | ebIb82 e i => exact op_rm_imm (length_encRm8 _ _) (by simp)
  | evIv e i => exact op_rm_imm (length_encRm16 _ _) (by simp [wordBytes])
  | evIs e i => exact op_rm_imm (length_encRm16 _ _) (by simp)

theorem length_encGrp3 (reg : BitVec 3) (f : RmForm) :
    1 ≤ (encGrp3 reg f).length ∧ (encGrp3 reg f).length ≤ maxInstrBytes := by
  cases f with
  | b e => exact op_rm (length_encRm8 _ _)
  | w e => exact op_rm (length_encRm16 _ _)

theorem length_encShift (reg : BitVec 3) (f : ShiftForm) :
    1 ≤ (encShift reg f).length ∧ (encShift reg f).length ≤ maxInstrBytes := by
  cases f with
  | eb1 e | ebCl e => exact op_rm (length_encRm8 _ _)
  | ev1 e | evCl e => exact op_rm (length_encRm16 _ _)

theorem length_encMov (f : MovForm) : 1 ≤ (encMov f).length ∧ (encMov f).length ≤ maxInstrBytes := by
  cases f with
  | ebGb e g | gbEb g e => exact op_rm (length_encRm8 _ _)
  | evGv e g | gvEv g e => exact op_rm (length_encRm16 _ _)
  | alOb off | axOv off | obAl off | ovAx off => simp [encMov, wordBytes, maxInstrBytes]

theorem length_encTest (f : TestForm) : 1 ≤ (encTest f).length ∧ (encTest f).length ≤ maxInstrBytes := by
  cases f with
  | ebGb e g => exact op_rm (length_encRm8 _ _)
  | evGv e g => exact op_rm (length_encRm16 _ _)
  | alIb i | axIv i => simp [encTest, wordBytes, maxInstrBytes]
  | ebIb e i => exact op_rm_imm (length_encRm8 _ _) (by simp)
  | evIv e i => exact op_rm_imm (length_encRm16 _ _) (by simp [wordBytes])

theorem length_encTestAlias (f : RmImm) : 1 ≤ (encTestAlias f).length ∧ (encTestAlias f).length ≤ maxInstrBytes := by
  cases f with
  | b e i => exact op_rm_imm (length_encRm8 _ _) (by simp)
  | w e i => exact op_rm_imm (length_encRm16 _ _) (by simp [wordBytes])

theorem length_encXchg (f : XchgForm) : 1 ≤ (encXchg f).length ∧ (encXchg f).length ≤ maxInstrBytes := by
  cases f with
  | b e g => exact op_rm (length_encRm8 _ _)
  | w e g => exact op_rm (length_encRm16 _ _)

theorem length_encSetmo (f : RmForm) : 1 ≤ (encSetmo f).length ∧ (encSetmo f).length ≤ maxInstrBytes := by
  cases f with
  | b e => exact op_rm (length_encRm8 _ _)
  | w e => exact op_rm (length_encRm16 _ _)

theorem length_encSetmoc (f : RmForm) : 1 ≤ (encSetmoc f).length ∧ (encSetmoc f).length ≤ maxInstrBytes := by
  cases f with
  | b e => exact op_rm (length_encRm8 _ _)
  | w e => exact op_rm (length_encRm16 _ _)

theorem length_encIn (f : PortForm) : 1 ≤ (encIn f).length ∧ (encIn f).length ≤ maxInstrBytes := by
  cases f <;> simp [encIn, maxInstrBytes]

theorem length_encOut (f : PortForm) : 1 ≤ (encOut f).length ∧ (encOut f).length ≤ maxInstrBytes := by
  cases f <;> simp [encOut, maxInstrBytes]

theorem segEs : Statement .segEs := op _
theorem segCs : Statement .segCs := op _
theorem segSs : Statement .segSs := op _
theorem segDs : Statement .segDs := op _
theorem lock : Statement .lock := op _
theorem lockF1 : Statement .lockF1 := op _
theorem repne : Statement .repne := op _
theorem rep : Statement .rep := op _
theorem mov (f : MovForm) : Statement (.mov f) := length_encMov f
theorem movEbIb (e : Rm8) (i : Byte) : Statement (.movEbIb e i) := op_rm_imm (length_encRm8 _ _) (by simp)
theorem movEvIv (e : Rm16) (i : Word) : Statement (.movEvIv e i) := op_rm_imm (length_encRm16 _ _) (by simp [wordBytes])
theorem movAlIb (i : Byte) : Statement (.movAlIb i) := op_byte _ _
theorem movClIb (i : Byte) : Statement (.movClIb i) := op_byte _ _
theorem movDlIb (i : Byte) : Statement (.movDlIb i) := op_byte _ _
theorem movBlIb (i : Byte) : Statement (.movBlIb i) := op_byte _ _
theorem movAhIb (i : Byte) : Statement (.movAhIb i) := op_byte _ _
theorem movChIb (i : Byte) : Statement (.movChIb i) := op_byte _ _
theorem movDhIb (i : Byte) : Statement (.movDhIb i) := op_byte _ _
theorem movBhIb (i : Byte) : Statement (.movBhIb i) := op_byte _ _
theorem movAxIv (i : Word) : Statement (.movAxIv i) := op_word _ _
theorem movCxIv (i : Word) : Statement (.movCxIv i) := op_word _ _
theorem movDxIv (i : Word) : Statement (.movDxIv i) := op_word _ _
theorem movBxIv (i : Word) : Statement (.movBxIv i) := op_word _ _
theorem movSpIv (i : Word) : Statement (.movSpIv i) := op_word _ _
theorem movBpIv (i : Word) : Statement (.movBpIv i) := op_word _ _
theorem movSiIv (i : Word) : Statement (.movSiIv i) := op_word _ _
theorem movDiIv (i : Word) : Statement (.movDiIv i) := op_word _ _
theorem movEwSw (e : Rm16) (r : SReg) : Statement (.movEwSw e r) := op_rm (length_encRm16 _ _)
theorem movEsEw (e : Rm16) : Statement (.movEsEw e) := op_rm (length_encRm16 _ _)
theorem movSsEw (e : Rm16) : Statement (.movSsEw e) := op_rm (length_encRm16 _ _)
theorem movDsEw (e : Rm16) : Statement (.movDsEw e) := op_rm (length_encRm16 _ _)
theorem pushAx : Statement .pushAx := op _
theorem pushCx : Statement .pushCx := op _
theorem pushDx : Statement .pushDx := op _
theorem pushBx : Statement .pushBx := op _
theorem pushSp : Statement .pushSp := op _
theorem pushBp : Statement .pushBp := op _
theorem pushSi : Statement .pushSi := op _
theorem pushDi : Statement .pushDi := op _
theorem pushEs : Statement .pushEs := op _
theorem pushCs : Statement .pushCs := op _
theorem pushSs : Statement .pushSs := op _
theorem pushDs : Statement .pushDs := op _
theorem pushEv (e : Rm16) : Statement (.pushEv e) := op_rm (length_encRm16 _ _)
theorem popAx : Statement .popAx := op _
theorem popCx : Statement .popCx := op _
theorem popDx : Statement .popDx := op _
theorem popBx : Statement .popBx := op _
theorem popSp : Statement .popSp := op _
theorem popBp : Statement .popBp := op _
theorem popSi : Statement .popSi := op _
theorem popDi : Statement .popDi := op _
theorem popEs : Statement .popEs := op _
theorem popSs : Statement .popSs := op _
theorem popDs : Statement .popDs := op _
theorem popEv (e : Rm16) : Statement (.popEv e) := op_rm (length_encRm16 _ _)
theorem xchg (f : XchgForm) : Statement (.xchg f) := length_encXchg f
theorem xchgAxCx : Statement .xchgAxCx := op _
theorem xchgAxDx : Statement .xchgAxDx := op _
theorem xchgAxBx : Statement .xchgAxBx := op _
theorem xchgAxSp : Statement .xchgAxSp := op _
theorem xchgAxBp : Statement .xchgAxBp := op _
theorem xchgAxSi : Statement .xchgAxSi := op _
theorem xchgAxDi : Statement .xchgAxDi := op _
theorem xlat : Statement .xlat := op _
theorem inp (f : PortForm) : Statement (.inp f) := length_encIn f
theorem outp (f : PortForm) : Statement (.outp f) := length_encOut f
theorem lea (g : Reg16) (m : Mem) : Statement (.lea g m) := op_rm (length_encMem _ _)
theorem les (g : Reg16) (m : Mem) : Statement (.les g m) := op_rm (length_encMem _ _)
theorem lds (g : Reg16) (m : Mem) : Statement (.lds g m) := op_rm (length_encMem _ _)
theorem lahf : Statement .lahf := op _
theorem sahf : Statement .sahf := op _
theorem pushf : Statement .pushf := op _
theorem popf : Statement .popf := op _
theorem add (f : AluForm) : Statement (.add f) := length_encAlu _ f
theorem adc (f : AluForm) : Statement (.adc f) := length_encAlu _ f
theorem sub (f : AluForm) : Statement (.sub f) := length_encAlu _ f
theorem sbb (f : AluForm) : Statement (.sbb f) := length_encAlu _ f
theorem cmp (f : AluForm) : Statement (.cmp f) := length_encAlu _ f
theorem incAx : Statement .incAx := op _
theorem incCx : Statement .incCx := op _
theorem incDx : Statement .incDx := op _
theorem incBx : Statement .incBx := op _
theorem incSp : Statement .incSp := op _
theorem incBp : Statement .incBp := op _
theorem incSi : Statement .incSi := op _
theorem incDi : Statement .incDi := op _
theorem incEb (e : Rm8) : Statement (.incEb e) := op_rm (length_encRm8 _ _)
theorem incEv (e : Rm16) : Statement (.incEv e) := op_rm (length_encRm16 _ _)
theorem decAx : Statement .decAx := op _
theorem decCx : Statement .decCx := op _
theorem decDx : Statement .decDx := op _
theorem decBx : Statement .decBx := op _
theorem decSp : Statement .decSp := op _
theorem decBp : Statement .decBp := op _
theorem decSi : Statement .decSi := op _
theorem decDi : Statement .decDi := op _
theorem decEb (e : Rm8) : Statement (.decEb e) := op_rm (length_encRm8 _ _)
theorem decEv (e : Rm16) : Statement (.decEv e) := op_rm (length_encRm16 _ _)
theorem neg (f : RmForm) : Statement (.neg f) := length_encGrp3 _ f
theorem mul (f : RmForm) : Statement (.mul f) := length_encGrp3 _ f
theorem imul (f : RmForm) : Statement (.imul f) := length_encGrp3 _ f
theorem div (f : RmForm) : Statement (.div f) := length_encGrp3 _ f
theorem idiv (f : RmForm) : Statement (.idiv f) := length_encGrp3 _ f
theorem daa : Statement .daa := op _
theorem das : Statement .das := op _
theorem aaa : Statement .aaa := op _
theorem aas : Statement .aas := op _
theorem aam (b : Byte) : Statement (.aam b) := op_byte _ _
theorem aad (b : Byte) : Statement (.aad b) := op_byte _ _
theorem cbw : Statement .cbw := op _
theorem cwd : Statement .cwd := op _
theorem and (f : AluForm) : Statement (.and f) := length_encAlu _ f
theorem or (f : AluForm) : Statement (.or f) := length_encAlu _ f
theorem xor (f : AluForm) : Statement (.xor f) := length_encAlu _ f
theorem test (f : TestForm) : Statement (.test f) := length_encTest f
theorem not (f : RmForm) : Statement (.not f) := length_encGrp3 _ f
theorem rol (f : ShiftForm) : Statement (.rol f) := length_encShift _ f
theorem ror (f : ShiftForm) : Statement (.ror f) := length_encShift _ f
theorem rcl (f : ShiftForm) : Statement (.rcl f) := length_encShift _ f
theorem rcr (f : ShiftForm) : Statement (.rcr f) := length_encShift _ f
theorem shl (f : ShiftForm) : Statement (.shl f) := length_encShift _ f
theorem shr (f : ShiftForm) : Statement (.shr f) := length_encShift _ f
theorem sar (f : ShiftForm) : Statement (.sar f) := length_encShift _ f
theorem movsb : Statement .movsb := op _
theorem movsw : Statement .movsw := op _
theorem cmpsb : Statement .cmpsb := op _
theorem cmpsw : Statement .cmpsw := op _
theorem stosb : Statement .stosb := op _
theorem stosw : Statement .stosw := op _
theorem lodsb : Statement .lodsb := op _
theorem lodsw : Statement .lodsw := op _
theorem scasb : Statement .scasb := op _
theorem scasw : Statement .scasw := op _
theorem jo (rel : Byte) : Statement (.jo rel) := op_byte _ _
theorem jno (rel : Byte) : Statement (.jno rel) := op_byte _ _
theorem jb (rel : Byte) : Statement (.jb rel) := op_byte _ _
theorem jae (rel : Byte) : Statement (.jae rel) := op_byte _ _
theorem je (rel : Byte) : Statement (.je rel) := op_byte _ _
theorem jne (rel : Byte) : Statement (.jne rel) := op_byte _ _
theorem jbe (rel : Byte) : Statement (.jbe rel) := op_byte _ _
theorem ja (rel : Byte) : Statement (.ja rel) := op_byte _ _
theorem js (rel : Byte) : Statement (.js rel) := op_byte _ _
theorem jns (rel : Byte) : Statement (.jns rel) := op_byte _ _
theorem jp (rel : Byte) : Statement (.jp rel) := op_byte _ _
theorem jnp (rel : Byte) : Statement (.jnp rel) := op_byte _ _
theorem jl (rel : Byte) : Statement (.jl rel) := op_byte _ _
theorem jge (rel : Byte) : Statement (.jge rel) := op_byte _ _
theorem jle (rel : Byte) : Statement (.jle rel) := op_byte _ _
theorem jg (rel : Byte) : Statement (.jg rel) := op_byte _ _
theorem loopne (rel : Byte) : Statement (.loopne rel) := op_byte _ _
theorem loope (rel : Byte) : Statement (.loope rel) := op_byte _ _
theorem loop (rel : Byte) : Statement (.loop rel) := op_byte _ _
theorem jcxz (rel : Byte) : Statement (.jcxz rel) := op_byte _ _
theorem jmpShort (rel : Byte) : Statement (.jmpShort rel) := op_byte _ _
theorem jmp (rel : Word) : Statement (.jmp rel) := op_word _ _
theorem jmpFar (off : Word) (seg : Word) : Statement (.jmpFar off seg) := op_far _ _ _
theorem jmpEv (e : Rm16) : Statement (.jmpEv e) := op_rm (length_encRm16 _ _)
theorem jmpFarMp (m : Mem) : Statement (.jmpFarMp m) := op_rm (length_encMem _ _)
theorem call (rel : Word) : Statement (.call rel) := op_word _ _
theorem callFar (off : Word) (seg : Word) : Statement (.callFar off seg) := op_far _ _ _
theorem callEv (e : Rm16) : Statement (.callEv e) := op_rm (length_encRm16 _ _)
theorem callFarMp (m : Mem) : Statement (.callFarMp m) := op_rm (length_encMem _ _)
theorem ret : Statement .ret := op _
theorem retIw (n : Word) : Statement (.retIw n) := op_word _ _
theorem retf : Statement .retf := op _
theorem retfIw (n : Word) : Statement (.retfIw n) := op_word _ _
theorem int (n : Byte) : Statement (.int n) := op_byte _ _
theorem int3 : Statement .int3 := op _
theorem into : Statement .into := op _
theorem iret : Statement .iret := op _
theorem clc : Statement .clc := op _
theorem stc : Statement .stc := op _
theorem cmc : Statement .cmc := op _
theorem cld : Statement .cld := op _
theorem std : Statement .std := op _
theorem cli : Statement .cli := op _
theorem sti : Statement .sti := op _
theorem hlt : Statement .hlt := op _
theorem wait : Statement .wait := op _
theorem nop : Statement .nop := op _
theorem esc (op : BitVec 3) (reg : BitVec 3) (e : Rm16) : Statement (.esc op reg e) := op_rm (length_encRm16 _ _)
theorem joAlias (rel : Byte) : Statement (.joAlias rel) := op_byte _ _
theorem jnoAlias (rel : Byte) : Statement (.jnoAlias rel) := op_byte _ _
theorem jbAlias (rel : Byte) : Statement (.jbAlias rel) := op_byte _ _
theorem jaeAlias (rel : Byte) : Statement (.jaeAlias rel) := op_byte _ _
theorem jeAlias (rel : Byte) : Statement (.jeAlias rel) := op_byte _ _
theorem jneAlias (rel : Byte) : Statement (.jneAlias rel) := op_byte _ _
theorem jbeAlias (rel : Byte) : Statement (.jbeAlias rel) := op_byte _ _
theorem jaAlias (rel : Byte) : Statement (.jaAlias rel) := op_byte _ _
theorem jsAlias (rel : Byte) : Statement (.jsAlias rel) := op_byte _ _
theorem jnsAlias (rel : Byte) : Statement (.jnsAlias rel) := op_byte _ _
theorem jpAlias (rel : Byte) : Statement (.jpAlias rel) := op_byte _ _
theorem jnpAlias (rel : Byte) : Statement (.jnpAlias rel) := op_byte _ _
theorem jlAlias (rel : Byte) : Statement (.jlAlias rel) := op_byte _ _
theorem jgeAlias (rel : Byte) : Statement (.jgeAlias rel) := op_byte _ _
theorem jleAlias (rel : Byte) : Statement (.jleAlias rel) := op_byte _ _
theorem jgAlias (rel : Byte) : Statement (.jgAlias rel) := op_byte _ _
theorem retIwAlias (n : Word) : Statement (.retIwAlias n) := op_word _ _
theorem retAlias : Statement .retAlias := op _
theorem retfIwAlias (n : Word) : Statement (.retfIwAlias n) := op_word _ _
theorem retfAlias : Statement .retfAlias := op _
theorem orAlias82 (e : Rm8) (i : Byte) : Statement (.orAlias82 e i) := op_rm_imm (length_encRm8 _ _) (by simp)
theorem andAlias82 (e : Rm8) (i : Byte) : Statement (.andAlias82 e i) := op_rm_imm (length_encRm8 _ _) (by simp)
theorem xorAlias82 (e : Rm8) (i : Byte) : Statement (.xorAlias82 e i) := op_rm_imm (length_encRm8 _ _) (by simp)
theorem orAlias83 (e : Rm16) (i : Byte) : Statement (.orAlias83 e i) := op_rm_imm (length_encRm16 _ _) (by simp)
theorem andAlias83 (e : Rm16) (i : Byte) : Statement (.andAlias83 e i) := op_rm_imm (length_encRm16 _ _) (by simp)
theorem xorAlias83 (e : Rm16) (i : Byte) : Statement (.xorAlias83 e i) := op_rm_imm (length_encRm16 _ _) (by simp)
theorem movEwSwAlias (e : Rm16) (r : SReg) : Statement (.movEwSwAlias e r) := op_rm (length_encRm16 _ _)
theorem movSwEwAlias (r : SReg) (e : Rm16) : Statement (.movSwEwAlias r e) := op_rm (length_encRm16 _ _)
theorem movCsEw (e : Rm16) : Statement (.movCsEw e) := op_rm (length_encRm16 _ _)
theorem popCs : Statement .popCs := op _
theorem popEvAlias1 (e : Rm16) : Statement (.popEvAlias1 e) := op_rm (length_encRm16 _ _)
theorem popEvAlias2 (e : Rm16) : Statement (.popEvAlias2 e) := op_rm (length_encRm16 _ _)
theorem popEvAlias3 (e : Rm16) : Statement (.popEvAlias3 e) := op_rm (length_encRm16 _ _)
theorem popEvAlias4 (e : Rm16) : Statement (.popEvAlias4 e) := op_rm (length_encRm16 _ _)
theorem popEvAlias5 (e : Rm16) : Statement (.popEvAlias5 e) := op_rm (length_encRm16 _ _)
theorem popEvAlias6 (e : Rm16) : Statement (.popEvAlias6 e) := op_rm (length_encRm16 _ _)
theorem popEvAlias7 (e : Rm16) : Statement (.popEvAlias7 e) := op_rm (length_encRm16 _ _)
theorem movEbIbAlias1 (e : Rm8) (i : Byte) : Statement (.movEbIbAlias1 e i) := op_rm_imm (length_encRm8 _ _) (by simp)
theorem movEbIbAlias2 (e : Rm8) (i : Byte) : Statement (.movEbIbAlias2 e i) := op_rm_imm (length_encRm8 _ _) (by simp)
theorem movEbIbAlias3 (e : Rm8) (i : Byte) : Statement (.movEbIbAlias3 e i) := op_rm_imm (length_encRm8 _ _) (by simp)
theorem movEbIbAlias4 (e : Rm8) (i : Byte) : Statement (.movEbIbAlias4 e i) := op_rm_imm (length_encRm8 _ _) (by simp)
theorem movEbIbAlias5 (e : Rm8) (i : Byte) : Statement (.movEbIbAlias5 e i) := op_rm_imm (length_encRm8 _ _) (by simp)
theorem movEbIbAlias6 (e : Rm8) (i : Byte) : Statement (.movEbIbAlias6 e i) := op_rm_imm (length_encRm8 _ _) (by simp)
theorem movEbIbAlias7 (e : Rm8) (i : Byte) : Statement (.movEbIbAlias7 e i) := op_rm_imm (length_encRm8 _ _) (by simp)
theorem movEvIvAlias1 (e : Rm16) (i : Word) : Statement (.movEvIvAlias1 e i) :=
  op_rm_imm (length_encRm16 _ _) (by simp [wordBytes])
theorem movEvIvAlias2 (e : Rm16) (i : Word) : Statement (.movEvIvAlias2 e i) :=
  op_rm_imm (length_encRm16 _ _) (by simp [wordBytes])
theorem movEvIvAlias3 (e : Rm16) (i : Word) : Statement (.movEvIvAlias3 e i) :=
  op_rm_imm (length_encRm16 _ _) (by simp [wordBytes])
theorem movEvIvAlias4 (e : Rm16) (i : Word) : Statement (.movEvIvAlias4 e i) :=
  op_rm_imm (length_encRm16 _ _) (by simp [wordBytes])
theorem movEvIvAlias5 (e : Rm16) (i : Word) : Statement (.movEvIvAlias5 e i) :=
  op_rm_imm (length_encRm16 _ _) (by simp [wordBytes])
theorem movEvIvAlias6 (e : Rm16) (i : Word) : Statement (.movEvIvAlias6 e i) :=
  op_rm_imm (length_encRm16 _ _) (by simp [wordBytes])
theorem movEvIvAlias7 (e : Rm16) (i : Word) : Statement (.movEvIvAlias7 e i) :=
  op_rm_imm (length_encRm16 _ _) (by simp [wordBytes])
theorem testAlias (f : RmImm) : Statement (.testAlias f) := length_encTestAlias f
theorem pushEvAlias (e : Rm16) : Statement (.pushEvAlias e) := op_rm (length_encRm16 _ _)
theorem salc : Statement .salc := op _
theorem setmo (f : RmForm) : Statement (.setmo f) := length_encSetmo f
theorem setmoc (f : RmForm) : Statement (.setmoc f) := length_encSetmoc f
theorem fe2 (e : Rm8) : Statement (.fe2 e) := op_rm (length_encRm8 _ _)
theorem fe3 (e : Rm8) : Statement (.fe3 e) := op_rm (length_encRm8 _ _)
theorem fe4 (e : Rm8) : Statement (.fe4 e) := op_rm (length_encRm8 _ _)
theorem fe5 (e : Rm8) : Statement (.fe5 e) := op_rm (length_encRm8 _ _)
theorem fe6 (e : Rm8) : Statement (.fe6 e) := op_rm (length_encRm8 _ _)
theorem fe7 (e : Rm8) : Statement (.fe7 e) := op_rm (length_encRm8 _ _)
theorem leaReg (g : Reg16) (r : Reg16) : Statement (.leaReg g r) := op_byte _ _
theorem lesReg (g : Reg16) (r : Reg16) : Statement (.lesReg g r) := op_byte _ _
theorem ldsReg (g : Reg16) (r : Reg16) : Statement (.ldsReg g r) := op_byte _ _
theorem callFarReg (r : Reg16) : Statement (.callFarReg r) := op_byte _ _
theorem jmpFarReg (r : Reg16) : Statement (.jmpFarReg r) := op_byte _ _
theorem repMulDiv (o : MulDivOp) (f : RmForm) : Statement (.repMulDiv o f) := length_encGrp3 _ f

end Sys2Proof.Laws.EncodedLength
end

