-- ==== Sys2Proof/Tests/Slice0.lean ====
section
/-! SUPPORT. The model's own tests: ill-formed terms, a word of every row of spec/opcode_table.json, one step of vectors of
spec/95_test_vectors.md (named in each comment), and for each obligation with hypotheses a state that meets them. -/

namespace Sys2Proof.Machine.Tests

/-! ## Well-formedness -/

/-- `BP` alone has no `mod = 00` form (30_encoding.md R66). -/
theorem test_wf_refuses_bp_without_displacement :
    (Instr.mov (.gvEv .ax (.mem (.base .bp)))).wf = false ∧ (Instr.lea .ax (.base .bp)).wf = false
      ∧ (Instr.mov (.gvEv .ax (.mem (.disp8 .bp 0)))).wf = true := by decide

/-- 82h and 83h of OR, AND and XOR are rows of their own (30_encoding.md R74). -/
theorem test_wf_refuses_logic_through_82_83 :
    (Instr.or (.ebIb82 (.reg .al) 1)).wf = false ∧ (Instr.and (.evIs (.reg .ax) 1)).wf = false
      ∧ (Instr.xor (.ebIb82 (.reg .al) 1)).wf = false ∧ (Instr.add (.ebIb82 (.reg .al) 1)).wf = true := by decide

/-! ## Decoding -/

/-- The bytes decode to the instruction and nothing is left. -/
def reads (rep : Bool) (bs : List Byte) (i : Instr) : Bool :=
  match decode rep bs with
  | .ok (j, []) => decide (j = i)
  | _ => false

/-- `[BX-2]`: mod 01, r/m 111, displacement FEh. -/
def m : Mem := .disp8 .bx 0xFE

/-- The table of effective addresses, one per row and per `mod` (30_encoding.md R66). -/
theorem test_decode_effective_addresses :
    (reads false [0x8D, 0x10] (.lea .dx (.base .bxSi))
    && reads false [0x8D, 0x11] (.lea .dx (.base .bxDi))
    && reads false [0x8D, 0x12] (.lea .dx (.base .bpSi))
    && reads false [0x8D, 0x13] (.lea .dx (.base .bpDi))
    && reads false [0x8D, 0x14] (.lea .dx (.base .si))
    && reads false [0x8D, 0x15] (.lea .dx (.base .di))
    && reads false [0x8D, 0x16, 0x34, 0x12] (.lea .dx (.direct 0x1234))
    && reads false [0x8D, 0x17] (.lea .dx (.base .bx))
    && reads false [0x8D, 0x56, 0x80] (.lea .dx (.disp8 .bp 0x80))
    && reads false [0x8D, 0x96, 0x34, 0x12] (.lea .dx (.disp16 .bp 0x1234))) = true := by decide

/-- Register numbers (10_state.md R20, R21, R23). -/
theorem test_decode_registers :
    (reads false [0x8B, 0xC1] (.mov (.gvEv .ax (.reg .cx)))
    && reads false [0x8B, 0xD3] (.mov (.gvEv .dx (.reg .bx)))
    && reads false [0x8B, 0xE5] (.mov (.gvEv .sp (.reg .bp)))
    && reads false [0x8B, 0xF7] (.mov (.gvEv .si (.reg .di)))
    && reads false [0x8A, 0xC1] (.mov (.gbEb .al (.reg .cl)))
    && reads false [0x8A, 0xD3] (.mov (.gbEb .dl (.reg .bl)))
    && reads false [0x8A, 0xE5] (.mov (.gbEb .ah (.reg .ch)))
    && reads false [0x8A, 0xF7] (.mov (.gbEb .dh (.reg .bh)))
    && reads false [0x8C, 0xC0] (.movEwSw (.reg .ax) .es)
    && reads false [0x8C, 0xC8] (.movEwSw (.reg .ax) .cs)
    && reads false [0x8C, 0xD0] (.movEwSw (.reg .ax) .ss)
    && reads false [0x8C, 0xD8] (.movEwSw (.reg .ax) .ds)) = true := by decide

theorem test_decode_arithmetic1 :
    (reads false [0x00, 0x57, 0xFE] (.add (.ebGb (.mem m) .dl))
    && reads false [0x01, 0x57, 0xFE] (.add (.evGv (.mem m) .dx))
    && reads false [0x02, 0x57, 0xFE] (.add (.gbEb .dl (.mem m)))
    && reads false [0x03, 0x57, 0xFE] (.add (.gvEv .dx (.mem m)))
    && reads false [0x04, 0x34] (.add (.alIb 0x34))
    && reads false [0x05, 0x34, 0x12] (.add (.axIv 0x1234))
    && reads false [0x10, 0x57, 0xFE] (.adc (.ebGb (.mem m) .dl))
    && reads false [0x11, 0x57, 0xFE] (.adc (.evGv (.mem m) .dx))
    && reads false [0x12, 0x57, 0xFE] (.adc (.gbEb .dl (.mem m)))
    && reads false [0x13, 0x57, 0xFE] (.adc (.gvEv .dx (.mem m)))
    && reads false [0x14, 0x34] (.adc (.alIb 0x34))
    && reads false [0x15, 0x34, 0x12] (.adc (.axIv 0x1234))
    && reads false [0x18, 0x57, 0xFE] (.sbb (.ebGb (.mem m) .dl))
    && reads false [0x19, 0x57, 0xFE] (.sbb (.evGv (.mem m) .dx))
    && reads false [0x1A, 0x57, 0xFE] (.sbb (.gbEb .dl (.mem m)))
    && reads false [0x1B, 0x57, 0xFE] (.sbb (.gvEv .dx (.mem m)))
    && reads false [0x1C, 0x34] (.sbb (.alIb 0x34))
    && reads false [0x1D, 0x34, 0x12] (.sbb (.axIv 0x1234))
    && reads false [0x28, 0x57, 0xFE] (.sub (.ebGb (.mem m) .dl))
    && reads false [0x29, 0x57, 0xFE] (.sub (.evGv (.mem m) .dx))
    && reads false [0x2A, 0x57, 0xFE] (.sub (.gbEb .dl (.mem m)))
    && reads false [0x2B, 0x57, 0xFE] (.sub (.gvEv .dx (.mem m)))
    && reads false [0x2C, 0x34] (.sub (.alIb 0x34))
    && reads false [0x2D, 0x34, 0x12] (.sub (.axIv 0x1234))) = true := by decide

theorem test_decode_arithmetic2 :
    (reads false [0x38, 0x57, 0xFE] (.cmp (.ebGb (.mem m) .dl))
    && reads false [0x39, 0x57, 0xFE] (.cmp (.evGv (.mem m) .dx))
    && reads false [0x3A, 0x57, 0xFE] (.cmp (.gbEb .dl (.mem m)))
    && reads false [0x3B, 0x57, 0xFE] (.cmp (.gvEv .dx (.mem m)))
    && reads false [0x3C, 0x34] (.cmp (.alIb 0x34))
    && reads false [0x3D, 0x34, 0x12] (.cmp (.axIv 0x1234))
    && reads false [0x27] .daa
    && reads false [0x2F] .das
    && reads false [0x37] .aaa
    && reads false [0x3F] .aas
    && reads false [0x40] .incAx
    && reads false [0x48] .decAx
    && reads false [0x41] .incCx
    && reads false [0x49] .decCx
    && reads false [0x42] .incDx
    && reads false [0x4A] .decDx
    && reads false [0x43] .incBx
    && reads false [0x4B] .decBx
    && reads false [0x44] .incSp
    && reads false [0x4C] .decSp
    && reads false [0x45] .incBp
    && reads false [0x4D] .decBp
    && reads false [0x46] .incSi
    && reads false [0x4E] .decSi) = true := by decide

theorem test_decode_arithmetic3 :
    (reads false [0x47] .incDi
    && reads false [0x4F] .decDi
    && reads false [0x80, 0x47, 0xFE, 0x34] (.add (.ebIb (.mem m) 0x34))
    && reads false [0x80, 0x57, 0xFE, 0x34] (.adc (.ebIb (.mem m) 0x34))
    && reads false [0x80, 0x5F, 0xFE, 0x34] (.sbb (.ebIb (.mem m) 0x34))
    && reads false [0x80, 0x6F, 0xFE, 0x34] (.sub (.ebIb (.mem m) 0x34))
    && reads false [0x80, 0x7F, 0xFE, 0x34] (.cmp (.ebIb (.mem m) 0x34))
    && reads false [0x81, 0x47, 0xFE, 0x34, 0x12] (.add (.evIv (.mem m) 0x1234))
    && reads false [0x81, 0x57, 0xFE, 0x34, 0x12] (.adc (.evIv (.mem m) 0x1234))
    && reads false [0x81, 0x5F, 0xFE, 0x34, 0x12] (.sbb (.evIv (.mem m) 0x1234))
    && reads false [0x81, 0x6F, 0xFE, 0x34, 0x12] (.sub (.evIv (.mem m) 0x1234))
    && reads false [0x81, 0x7F, 0xFE, 0x34, 0x12] (.cmp (.evIv (.mem m) 0x1234))
    && reads false [0x82, 0x47, 0xFE, 0x34] (.add (.ebIb82 (.mem m) 0x34))
    && reads false [0x82, 0x57, 0xFE, 0x34] (.adc (.ebIb82 (.mem m) 0x34))
    && reads false [0x82, 0x5F, 0xFE, 0x34] (.sbb (.ebIb82 (.mem m) 0x34))
    && reads false [0x82, 0x6F, 0xFE, 0x34] (.sub (.ebIb82 (.mem m) 0x34))
    && reads false [0x82, 0x7F, 0xFE, 0x34] (.cmp (.ebIb82 (.mem m) 0x34))
    && reads false [0x83, 0x47, 0xFE, 0x34] (.add (.evIs (.mem m) 0x34))
    && reads false [0x83, 0x57, 0xFE, 0x34] (.adc (.evIs (.mem m) 0x34))
    && reads false [0x83, 0x5F, 0xFE, 0x34] (.sbb (.evIs (.mem m) 0x34))
    && reads false [0x83, 0x6F, 0xFE, 0x34] (.sub (.evIs (.mem m) 0x34))
    && reads false [0x83, 0x7F, 0xFE, 0x34] (.cmp (.evIs (.mem m) 0x34))
    && reads false [0x98] .cbw
    && reads false [0x99] .cwd) = true := by decide

theorem test_decode_arithmetic4 :
    (reads false [0xD4, 0x34] (.aam 0x34)
    && reads false [0xD5, 0x34] (.aad 0x34)
    && reads false [0xF6, 0x5F, 0xFE] (.neg (.b (.mem m)))
    && reads false [0xF6, 0x67, 0xFE] (.mul (.b (.mem m)))
    && reads false [0xF6, 0x6F, 0xFE] (.imul (.b (.mem m)))
    && reads false [0xF6, 0x77, 0xFE] (.div (.b (.mem m)))
    && reads false [0xF6, 0x7F, 0xFE] (.idiv (.b (.mem m)))
    && reads false [0xF7, 0x5F, 0xFE] (.neg (.w (.mem m)))
    && reads false [0xF7, 0x67, 0xFE] (.mul (.w (.mem m)))
    && reads false [0xF7, 0x6F, 0xFE] (.imul (.w (.mem m)))
    && reads false [0xF7, 0x77, 0xFE] (.div (.w (.mem m)))
    && reads false [0xF7, 0x7F, 0xFE] (.idiv (.w (.mem m)))
    && reads false [0xFE, 0x47, 0xFE] (.incEb (.mem m))
    && reads false [0xFE, 0x4F, 0xFE] (.decEb (.mem m))
    && reads false [0xFF, 0x47, 0xFE] (.incEv (.mem m))
    && reads false [0xFF, 0x4F, 0xFE] (.decEv (.mem m))) = true := by decide

theorem test_decode_logic1 :
    (reads false [0x08, 0x57, 0xFE] (.or (.ebGb (.mem m) .dl))
    && reads false [0x09, 0x57, 0xFE] (.or (.evGv (.mem m) .dx))
    && reads false [0x0A, 0x57, 0xFE] (.or (.gbEb .dl (.mem m)))
    && reads false [0x0B, 0x57, 0xFE] (.or (.gvEv .dx (.mem m)))
    && reads false [0x0C, 0x34] (.or (.alIb 0x34))
    && reads false [0x0D, 0x34, 0x12] (.or (.axIv 0x1234))
    && reads false [0x20, 0x57, 0xFE] (.and (.ebGb (.mem m) .dl))
    && reads false [0x21, 0x57, 0xFE] (.and (.evGv (.mem m) .dx))
    && reads false [0x22, 0x57, 0xFE] (.and (.gbEb .dl (.mem m)))
    && reads false [0x23, 0x57, 0xFE] (.and (.gvEv .dx (.mem m)))
    && reads false [0x24, 0x34] (.and (.alIb 0x34))
    && reads false [0x25, 0x34, 0x12] (.and (.axIv 0x1234))
    && reads false [0x30, 0x57, 0xFE] (.xor (.ebGb (.mem m) .dl))
    && reads false [0x31, 0x57, 0xFE] (.xor (.evGv (.mem m) .dx))
    && reads false [0x32, 0x57, 0xFE] (.xor (.gbEb .dl (.mem m)))
    && reads false [0x33, 0x57, 0xFE] (.xor (.gvEv .dx (.mem m)))
    && reads false [0x34, 0x34] (.xor (.alIb 0x34))
    && reads false [0x35, 0x34, 0x12] (.xor (.axIv 0x1234))
    && reads false [0x80, 0x4F, 0xFE, 0x34] (.or (.ebIb (.mem m) 0x34))
    && reads false [0x80, 0x67, 0xFE, 0x34] (.and (.ebIb (.mem m) 0x34))
    && reads false [0x80, 0x77, 0xFE, 0x34] (.xor (.ebIb (.mem m) 0x34))
    && reads false [0x81, 0x4F, 0xFE, 0x34, 0x12] (.or (.evIv (.mem m) 0x1234))
    && reads false [0x81, 0x67, 0xFE, 0x34, 0x12] (.and (.evIv (.mem m) 0x1234))
    && reads false [0x81, 0x77, 0xFE, 0x34, 0x12] (.xor (.evIv (.mem m) 0x1234))) = true := by decide

theorem test_decode_logic2 :
    (reads false [0x84, 0x57, 0xFE] (.test (.ebGb (.mem m) .dl))
    && reads false [0x85, 0x57, 0xFE] (.test (.evGv (.mem m) .dx))
    && reads false [0xA8, 0x34] (.test (.alIb 0x34))
    && reads false [0xA9, 0x34, 0x12] (.test (.axIv 0x1234))
    && reads false [0xD0, 0x47, 0xFE] (.rol (.eb1 (.mem m)))
    && reads false [0xD0, 0x4F, 0xFE] (.ror (.eb1 (.mem m)))
    && reads false [0xD0, 0x57, 0xFE] (.rcl (.eb1 (.mem m)))
    && reads false [0xD0, 0x5F, 0xFE] (.rcr (.eb1 (.mem m)))
    && reads false [0xD0, 0x67, 0xFE] (.shl (.eb1 (.mem m)))
    && reads false [0xD0, 0x6F, 0xFE] (.shr (.eb1 (.mem m)))
    && reads false [0xD0, 0x7F, 0xFE] (.sar (.eb1 (.mem m)))
    && reads false [0xD1, 0x47, 0xFE] (.rol (.ev1 (.mem m)))
    && reads false [0xD1, 0x4F, 0xFE] (.ror (.ev1 (.mem m)))
    && reads false [0xD1, 0x57, 0xFE] (.rcl (.ev1 (.mem m)))
    && reads false [0xD1, 0x5F, 0xFE] (.rcr (.ev1 (.mem m)))
    && reads false [0xD1, 0x67, 0xFE] (.shl (.ev1 (.mem m)))
    && reads false [0xD1, 0x6F, 0xFE] (.shr (.ev1 (.mem m)))
    && reads false [0xD1, 0x7F, 0xFE] (.sar (.ev1 (.mem m)))
    && reads false [0xD2, 0x47, 0xFE] (.rol (.ebCl (.mem m)))
    && reads false [0xD2, 0x4F, 0xFE] (.ror (.ebCl (.mem m)))
    && reads false [0xD2, 0x57, 0xFE] (.rcl (.ebCl (.mem m)))
    && reads false [0xD2, 0x5F, 0xFE] (.rcr (.ebCl (.mem m)))
    && reads false [0xD2, 0x67, 0xFE] (.shl (.ebCl (.mem m)))
    && reads false [0xD2, 0x6F, 0xFE] (.shr (.ebCl (.mem m)))) = true := by decide

theorem test_decode_logic3 :
    (reads false [0xD2, 0x7F, 0xFE] (.sar (.ebCl (.mem m)))
    && reads false [0xD3, 0x47, 0xFE] (.rol (.evCl (.mem m)))
    && reads false [0xD3, 0x4F, 0xFE] (.ror (.evCl (.mem m)))
    && reads false [0xD3, 0x57, 0xFE] (.rcl (.evCl (.mem m)))
    && reads false [0xD3, 0x5F, 0xFE] (.rcr (.evCl (.mem m)))
    && reads false [0xD3, 0x67, 0xFE] (.shl (.evCl (.mem m)))
    && reads false [0xD3, 0x6F, 0xFE] (.shr (.evCl (.mem m)))
    && reads false [0xD3, 0x7F, 0xFE] (.sar (.evCl (.mem m)))
    && reads false [0xF6, 0x47, 0xFE, 0x34] (.test (.ebIb (.mem m) 0x34))
    && reads false [0xF6, 0x57, 0xFE] (.not (.b (.mem m)))
    && reads false [0xF7, 0x47, 0xFE, 0x34, 0x12] (.test (.evIv (.mem m) 0x1234))
    && reads false [0xF7, 0x57, 0xFE] (.not (.w (.mem m)))) = true := by decide

theorem test_decode_dataTransfer1 :
    (reads false [0x06] .pushEs
    && reads false [0x07] .popEs
    && reads false [0x0E] .pushCs
    && reads false [0x16] .pushSs
    && reads false [0x17] .popSs
    && reads false [0x1E] .pushDs
    && reads false [0x1F] .popDs
    && reads false [0x50] .pushAx
    && reads false [0x58] .popAx
    && reads false [0x51] .pushCx
    && reads false [0x59] .popCx
    && reads false [0x52] .pushDx
    && reads false [0x5A] .popDx
    && reads false [0x53] .pushBx
    && reads false [0x5B] .popBx
    && reads false [0x54] .pushSp
    && reads false [0x5C] .popSp
    && reads false [0x55] .pushBp
    && reads false [0x5D] .popBp
    && reads false [0x56] .pushSi
    && reads false [0x5E] .popSi
    && reads false [0x57] .pushDi
    && reads false [0x5F] .popDi
    && reads false [0x86, 0x57, 0xFE] (.xchg (.b (.mem m) .dl))) = true := by decide

theorem test_decode_dataTransfer2 :
    (reads false [0x87, 0x57, 0xFE] (.xchg (.w (.mem m) .dx))
    && reads false [0x88, 0x57, 0xFE] (.mov (.ebGb (.mem m) .dl))
    && reads false [0x89, 0x57, 0xFE] (.mov (.evGv (.mem m) .dx))
    && reads false [0x8A, 0x57, 0xFE] (.mov (.gbEb .dl (.mem m)))
    && reads false [0x8B, 0x57, 0xFE] (.mov (.gvEv .dx (.mem m)))
    && reads false [0x8C, 0x57, 0xFE] (.movEwSw (.mem m) .ss)
    && reads false [0x8D, 0x57, 0xFE] (.lea .dx m)
    && reads false [0x8E, 0x47, 0xFE] (.movEsEw (.mem m))
    && reads false [0x8E, 0x57, 0xFE] (.movSsEw (.mem m))
    && reads false [0x8E, 0x5F, 0xFE] (.movDsEw (.mem m))
    && reads false [0x8F, 0x47, 0xFE] (.popEv (.mem m))
    && reads false [0x91] .xchgAxCx
    && reads false [0x92] .xchgAxDx
    && reads false [0x93] .xchgAxBx
    && reads false [0x94] .xchgAxSp
    && reads false [0x95] .xchgAxBp
    && reads false [0x96] .xchgAxSi
    && reads false [0x97] .xchgAxDi
    && reads false [0x9C] .pushf
    && reads false [0x9D] .popf
    && reads false [0x9E] .sahf
    && reads false [0x9F] .lahf
    && reads false [0xA0, 0x34, 0x12] (.mov (.alOb 0x1234))
    && reads false [0xA1, 0x34, 0x12] (.mov (.axOv 0x1234))) = true := by decide

theorem test_decode_dataTransfer3 :
    (reads false [0xA2, 0x34, 0x12] (.mov (.obAl 0x1234))
    && reads false [0xA3, 0x34, 0x12] (.mov (.ovAx 0x1234))
    && reads false [0xB0, 0x34] (.movAlIb 0x34)
    && reads false [0xB1, 0x34] (.movClIb 0x34)
    && reads false [0xB2, 0x34] (.movDlIb 0x34)
    && reads false [0xB3, 0x34] (.movBlIb 0x34)
    && reads false [0xB4, 0x34] (.movAhIb 0x34)
    && reads false [0xB5, 0x34] (.movChIb 0x34)
    && reads false [0xB6, 0x34] (.movDhIb 0x34)
    && reads false [0xB7, 0x34] (.movBhIb 0x34)
    && reads false [0xB8, 0x34, 0x12] (.movAxIv 0x1234)
    && reads false [0xB9, 0x34, 0x12] (.movCxIv 0x1234)
    && reads false [0xBA, 0x34, 0x12] (.movDxIv 0x1234)
    && reads false [0xBB, 0x34, 0x12] (.movBxIv 0x1234)
    && reads false [0xBC, 0x34, 0x12] (.movSpIv 0x1234)
    && reads false [0xBD, 0x34, 0x12] (.movBpIv 0x1234)
    && reads false [0xBE, 0x34, 0x12] (.movSiIv 0x1234)
    && reads false [0xBF, 0x34, 0x12] (.movDiIv 0x1234)
    && reads false [0xC4, 0x57, 0xFE] (.les .dx m)
    && reads false [0xC5, 0x57, 0xFE] (.lds .dx m)
    && reads false [0xC6, 0x47, 0xFE, 0x34] (.movEbIb (.mem m) 0x34)
    && reads false [0xC7, 0x47, 0xFE, 0x34, 0x12] (.movEvIv (.mem m) 0x1234)
    && reads false [0xD7] .xlat
    && reads false [0xE4, 0x34] (.inp (.immB 0x34))) = true := by decide

theorem test_decode_dataTransfer4 :
    (reads false [0xE5, 0x34] (.inp (.immW 0x34))
    && reads false [0xE6, 0x34] (.outp (.immB 0x34))
    && reads false [0xE7, 0x34] (.outp (.immW 0x34))
    && reads false [0xEC] (.inp (.dxB))
    && reads false [0xED] (.inp (.dxW))
    && reads false [0xEE] (.outp (.dxB))
    && reads false [0xEF] (.outp (.dxW))
    && reads false [0xFF, 0x77, 0xFE] (.pushEv (.mem m))) = true := by decide

theorem test_decode_prefixes :
    (reads false [0x26] .segEs
    && reads false [0x2E] .segCs
    && reads false [0x36] .segSs
    && reads false [0x3E] .segDs
    && reads false [0xF0] .lock
    && reads false [0xF1] .lockF1
    && reads false [0xF2] .repne
    && reads false [0xF3] .rep) = true := by decide

theorem test_decode_undocumented1 :
    (reads false [0x0F] .popCs
    && reads false [0x60, 0x34] (.joAlias 0x34)
    && reads false [0x61, 0x34] (.jnoAlias 0x34)
    && reads false [0x62, 0x34] (.jbAlias 0x34)
    && reads false [0x63, 0x34] (.jaeAlias 0x34)
    && reads false [0x64, 0x34] (.jeAlias 0x34)
    && reads false [0x65, 0x34] (.jneAlias 0x34)
    && reads false [0x66, 0x34] (.jbeAlias 0x34)
    && reads false [0x67, 0x34] (.jaAlias 0x34)
    && reads false [0x68, 0x34] (.jsAlias 0x34)
    && reads false [0x69, 0x34] (.jnsAlias 0x34)
    && reads false [0x6A, 0x34] (.jpAlias 0x34)
    && reads false [0x6B, 0x34] (.jnpAlias 0x34)
    && reads false [0x6C, 0x34] (.jlAlias 0x34)
    && reads false [0x6D, 0x34] (.jgeAlias 0x34)
    && reads false [0x6E, 0x34] (.jleAlias 0x34)
    && reads false [0x6F, 0x34] (.jgAlias 0x34)
    && reads false [0x82, 0x4F, 0xFE, 0x34] (.orAlias82 (.mem m) 0x34)
    && reads false [0x82, 0x67, 0xFE, 0x34] (.andAlias82 (.mem m) 0x34)
    && reads false [0x82, 0x77, 0xFE, 0x34] (.xorAlias82 (.mem m) 0x34)
    && reads false [0x83, 0x4F, 0xFE, 0x34] (.orAlias83 (.mem m) 0x34)
    && reads false [0x83, 0x67, 0xFE, 0x34] (.andAlias83 (.mem m) 0x34)
    && reads false [0x83, 0x77, 0xFE, 0x34] (.xorAlias83 (.mem m) 0x34)
    && reads false [0x8C, 0x77, 0xFE] (.movEwSwAlias (.mem m) .ss)) = true := by decide

theorem test_decode_undocumented2 :
    (reads false [0x8D, 0xD3] (.leaReg .dx .bx)
    && reads false [0x8E, 0x4F, 0xFE] (.movCsEw (.mem m))
    && reads false [0x8E, 0x77, 0xFE] (.movSwEwAlias .ss (.mem m))
    && reads false [0x8F, 0x4F, 0xFE] (.popEvAlias1 (.mem m))
    && reads false [0x8F, 0x57, 0xFE] (.popEvAlias2 (.mem m))
    && reads false [0x8F, 0x5F, 0xFE] (.popEvAlias3 (.mem m))
    && reads false [0x8F, 0x67, 0xFE] (.popEvAlias4 (.mem m))
    && reads false [0x8F, 0x6F, 0xFE] (.popEvAlias5 (.mem m))
    && reads false [0x8F, 0x77, 0xFE] (.popEvAlias6 (.mem m))
    && reads false [0x8F, 0x7F, 0xFE] (.popEvAlias7 (.mem m))
    && reads false [0xC0, 0x34, 0x12] (.retIwAlias 0x1234)
    && reads false [0xC1] .retAlias
    && reads false [0xC4, 0xD3] (.lesReg .dx .bx)
    && reads false [0xC5, 0xD3] (.ldsReg .dx .bx)
    && reads false [0xC6, 0x4F, 0xFE, 0x34] (.movEbIbAlias1 (.mem m) 0x34)
    && reads false [0xC6, 0x57, 0xFE, 0x34] (.movEbIbAlias2 (.mem m) 0x34)
    && reads false [0xC6, 0x5F, 0xFE, 0x34] (.movEbIbAlias3 (.mem m) 0x34)
    && reads false [0xC6, 0x67, 0xFE, 0x34] (.movEbIbAlias4 (.mem m) 0x34)
    && reads false [0xC6, 0x6F, 0xFE, 0x34] (.movEbIbAlias5 (.mem m) 0x34)
    && reads false [0xC6, 0x77, 0xFE, 0x34] (.movEbIbAlias6 (.mem m) 0x34)
    && reads false [0xC6, 0x7F, 0xFE, 0x34] (.movEbIbAlias7 (.mem m) 0x34)
    && reads false [0xC7, 0x4F, 0xFE, 0x34, 0x12] (.movEvIvAlias1 (.mem m) 0x1234)
    && reads false [0xC7, 0x57, 0xFE, 0x34, 0x12] (.movEvIvAlias2 (.mem m) 0x1234)
    && reads false [0xC7, 0x5F, 0xFE, 0x34, 0x12] (.movEvIvAlias3 (.mem m) 0x1234)) = true := by decide

theorem test_decode_undocumented3 :
    (reads false [0xC7, 0x67, 0xFE, 0x34, 0x12] (.movEvIvAlias4 (.mem m) 0x1234)
    && reads false [0xC7, 0x6F, 0xFE, 0x34, 0x12] (.movEvIvAlias5 (.mem m) 0x1234)
    && reads false [0xC7, 0x77, 0xFE, 0x34, 0x12] (.movEvIvAlias6 (.mem m) 0x1234)
    && reads false [0xC7, 0x7F, 0xFE, 0x34, 0x12] (.movEvIvAlias7 (.mem m) 0x1234)
    && reads false [0xC8, 0x34, 0x12] (.retfIwAlias 0x1234)
    && reads false [0xC9] .retfAlias
    && reads false [0xD0, 0x77, 0xFE] (.setmo (.b (.mem m)))
    && reads false [0xD1, 0x77, 0xFE] (.setmo (.w (.mem m)))
    && reads false [0xD2, 0x77, 0xFE] (.setmoc (.b (.mem m)))
    && reads false [0xD3, 0x77, 0xFE] (.setmoc (.w (.mem m)))
    && reads false [0xD6] .salc
    && reads false [0xF6, 0x4F, 0xFE, 0x34] (.testAlias (.b (.mem m) 0x34))
    && reads true [0xF6, 0x67, 0xFE] (.repMulDiv .mul (.b (.mem m)))
    && reads false [0xF7, 0x4F, 0xFE, 0x34, 0x12] (.testAlias (.w (.mem m) 0x1234))
    && reads true [0xF7, 0x67, 0xFE] (.repMulDiv .mul (.w (.mem m)))
    && reads false [0xFE, 0x57, 0xFE] (.fe2 (.mem m))
    && reads false [0xFE, 0x5F, 0xFE] (.fe3 (.mem m))
    && reads false [0xFE, 0x67, 0xFE] (.fe4 (.mem m))
    && reads false [0xFE, 0x6F, 0xFE] (.fe5 (.mem m))
    && reads false [0xFE, 0x77, 0xFE] (.fe6 (.mem m))
    && reads false [0xFE, 0x7F, 0xFE] (.fe7 (.mem m))
    && reads false [0xFF, 0x7F, 0xFE] (.pushEvAlias (.mem m))
    && reads false [0xFF, 0xDB] (.callFarReg .bx)
    && reads false [0xFF, 0xEB] (.jmpFarReg .bx)) = true := by decide

theorem test_decode_control1 :
    (reads false [0x70, 0x34] (.jo 0x34)
    && reads false [0x71, 0x34] (.jno 0x34)
    && reads false [0x72, 0x34] (.jb 0x34)
    && reads false [0x73, 0x34] (.jae 0x34)
    && reads false [0x74, 0x34] (.je 0x34)
    && reads false [0x75, 0x34] (.jne 0x34)
    && reads false [0x76, 0x34] (.jbe 0x34)
    && reads false [0x77, 0x34] (.ja 0x34)
    && reads false [0x78, 0x34] (.js 0x34)
    && reads false [0x79, 0x34] (.jns 0x34)
    && reads false [0x7A, 0x34] (.jp 0x34)
    && reads false [0x7B, 0x34] (.jnp 0x34)
    && reads false [0x7C, 0x34] (.jl 0x34)
    && reads false [0x7D, 0x34] (.jge 0x34)
    && reads false [0x7E, 0x34] (.jle 0x34)
    && reads false [0x7F, 0x34] (.jg 0x34)
    && reads false [0x9A, 0x34, 0x12, 0x78, 0x56] (.callFar 0x1234 0x5678)
    && reads false [0xC2, 0x34, 0x12] (.retIw 0x1234)
    && reads false [0xC3] .ret
    && reads false [0xCA, 0x34, 0x12] (.retfIw 0x1234)
    && reads false [0xCB] .retf
    && reads false [0xE0, 0x34] (.loopne 0x34)
    && reads false [0xE1, 0x34] (.loope 0x34)
    && reads false [0xE2, 0x34] (.loop 0x34)) = true := by decide

theorem test_decode_control2 :
    (reads false [0xE3, 0x34] (.jcxz 0x34)
    && reads false [0xE8, 0x34, 0x12] (.call 0x1234)
    && reads false [0xE9, 0x34, 0x12] (.jmp 0x1234)
    && reads false [0xEA, 0x34, 0x12, 0x78, 0x56] (.jmpFar 0x1234 0x5678)
    && reads false [0xEB, 0x34] (.jmpShort 0x34)
    && reads false [0xFF, 0x57, 0xFE] (.callEv (.mem m))
    && reads false [0xFF, 0x5F, 0xFE] (.callFarMp m)
    && reads false [0xFF, 0x67, 0xFE] (.jmpEv (.mem m))
    && reads false [0xFF, 0x6F, 0xFE] (.jmpFarMp m)) = true := by decide

theorem test_decode_processor :
    (reads false [0x90] .nop
    && reads false [0x9B] .wait
    && reads false [0xDB, 0x6F, 0xFE] (.esc 3 5 (.mem m))
    && reads false [0xF4] .hlt
    && reads false [0xF5] .cmc
    && reads false [0xF8] .clc
    && reads false [0xF9] .stc
    && reads false [0xFA] .cli
    && reads false [0xFB] .sti
    && reads false [0xFC] .cld
    && reads false [0xFD] .std) = true := by decide

theorem test_decode_strings :
    (reads false [0xA4] .movsb
    && reads false [0xA5] .movsw
    && reads false [0xA6] .cmpsb
    && reads false [0xA7] .cmpsw
    && reads false [0xAA] .stosb
    && reads false [0xAB] .stosw
    && reads false [0xAC] .lodsb
    && reads false [0xAD] .lodsw
    && reads false [0xAE] .scasb
    && reads false [0xAF] .scasw) = true := by decide

theorem test_decode_interrupts :
    (reads false [0xCC] .int3
    && reads false [0xCD, 0x34] (.int 0x34)
    && reads false [0xCE] .into
    && reads false [0xCF] .iret) = true := by decide

/-- A table word is laid out low byte first (notes/assumptions/26.md). -/
theorem test_decode_table_word :
    decodeTableWord 16 0x30F6 = some (.div (.b (.mem (.base .bxSi)))) ∧ decodeTableWord 8 0xCF = some .iret := by decide

/-! ## One step of vectors of spec/95_test_vectors.md -/

/-- The start state of 95_test_vectors.md: segments 0, IP = 0100h, the instruction's bytes there. -/
def start (code : List Byte) : State :=
  { State.reset with
    sreg := ⟨0, 0, 0, 0⟩, ip := 0x100, fetchIp := 0x100, mem := placeBytes 0 0x100 code [] }

/-- More bytes of memory. -/
def State.bytes (s : State) (off : Word) (bs : List Byte) : State := { s with mem := placeBytes 0 off bs s.mem }

/-- A property of the state after one step. -/
def after (s : State) (p : State → Bool) : Bool :=
  match step s with
  | .next t => p t
  | _ => false

/-- CF, OF, AF, SF, ZF, PF as a vector lists them. -/
def six (f : Flags) : List Bool := [f.cf, f.ofl, f.af, f.sf, f.zf, f.pf]

/-- S2: ADD byte 80h + 80h and 0Fh + 01h. -/
theorem test_add_byte_flags :
    after { start [0x04, 0x80] with gpr := { Gprs.reset with ax := 0x80 } }
      (fun t => t.gpr.ax = 0 ∧ six t.flags = [true, true, false, false, true, true] ∧ t.ip = 0x102) = true
    ∧ after { start [0x04, 0x01] with gpr := { Gprs.reset with ax := 0x0F } }
      (fun t => t.gpr.ax = 0x10 ∧ six t.flags = [false, false, true, false, false, false]) = true := by decide

/-- S2: ADC byte FFh + FFh with CF = 1; SBB word 1234h - 1234h with CF = 1. -/
theorem test_carry_in_flags :
    after { start [0x14, 0xFF] with gpr := { Gprs.reset with ax := 0xFF }, flags := { Flags.reset with cf := true } }
      (fun t => t.gpr.ax = 0xFF ∧ six t.flags = [true, false, true, true, false, true]) = true
    ∧ after { start [0x1D, 0x34, 0x12] with
        gpr := { Gprs.reset with ax := 0x1234 }, flags := { Flags.reset with cf := true } }
      (fun t => t.gpr.ax = 0xFFFF ∧ six t.flags = [true, false, true, true, false, true]) = true := by decide

/-- S2: CMP byte 7Fh, 80h; NEG byte 80h. -/
theorem test_compare_and_negate_flags :
    after { start [0x3C, 0x80] with gpr := { Gprs.reset with ax := 0x7F } }
      (fun t => t.gpr.ax = 0x7F ∧ six t.flags = [true, true, false, true, false, true]) = true
    ∧ after { start [0xF6, 0xD8] with gpr := { Gprs.reset with ax := 0x80 } }
      (fun t => t.gpr.ax = 0x80 ∧ six t.flags = [true, true, false, true, false, false]) = true := by decide

/-- S3: the A20 wrap. -/
theorem test_phys_wraps :
    phys 0x1234 0x5678 = 0x179B8 ∧ phys 0xFFFF 0 = 0xFFFF0 ∧ phys 0xFFFF 0x10 = 0 ∧ phys 0xFFFF 0xFFFF = 0x0FFEF := by
  decide

/-- S7: INC AX of FFFFh leaves CF. -/
theorem test_inc_keeps_carry :
    after { start [0x40] with gpr := { Gprs.reset with ax := 0xFFFF }, flags := { Flags.reset with cf := true } }
      (fun t => t.gpr.ax = 0 ∧ six t.flags = [true, false, true, false, true, true]) = true := by decide

/-- S8: INT 21h with IF = 1. -/
theorem test_int_enters :
    after { State.bytes (start [0xCD, 0x21]) 0x84 [0, 0x20, 0, 0] with
        gpr := { Gprs.reset with sp := 0x1000 }, flags := { Flags.reset with ifl := true } }
      (fun t => t.ip = 0x2000 ∧ t.gpr.sp = 0x0FFA ∧ t.flags.ifl = false ∧ t.wordAt 0 0xFFA = 0x0102
        ∧ t.wordAt 0 0xFFC = 0 ∧ t.wordAt 0 0xFFE = 0xF202) = true := by decide

/-- S4, step 1 (with a vector of nonzero bytes, the pushed flags being undefined): a divide error is serviced before a pending
maskable request, which stays. -/
theorem test_divide_error_first :
    after { State.bytes (start [0xF6, 0xF3]) 0 [1, 6, 2, 1] with
        gpr := { Gprs.reset with ax := 7, sp := 0x1000 }, flags := { Flags.reset with ifl := true }, intrQ := [8] }
      (fun t => t.ip = 0x601 ∧ t.sreg.cs = 0x102 ∧ t.gpr.sp = 0x0FFA ∧ t.gpr.ax = 7 ∧ t.flags.ifl = false
        ∧ t.intrQ = [8]) = true := by decide

/-- A word at offset FFFFh has its high byte at offset 0000h of the segment (20_memory.md R48). -/
theorem test_word_wraps_in_segment :
    after { State.bytes (start [0xA1, 0xFF, 0xFF]) 0 [0x12] with mem := (0, 0x12) :: (0x100, 0xA1) :: (0x101, 0xFF) ::
        (0x102, 0xFF) :: [(0xFFFF, 0x34)] } (fun t => t.gpr.ax = 0x1234) = true := by decide

/-- BP has the default segment SS, an override replaces it (30_encoding.md R67). -/
theorem test_default_segment_and_override :
    after { State.bytes (start [0x8A, 0x46, 0]) 0x210 [0x11] with
        gpr := { Gprs.reset with bp := 0x10 }, sreg := ⟨0, 0, 0x20, 0x40⟩ } (fun t => t.gpr.ax = 0x11) = true
    ∧ after { State.bytes (start [0x3E, 0x8A, 0x46, 0]) 0x410 [0x22] with
        gpr := { Gprs.reset with bp := 0x10 }, sreg := ⟨0, 0, 0x20, 0x40⟩ }
      (fun t => t.gpr.ax = 0x22 ∧ t.ip = 0x104) = true := by decide

/-- PUSH SP stores the decremented SP (40_data_transfer.md R86), POP SP leaves the popped word (R89). -/
theorem test_push_pop_sp :
    after { start [0x54] with gpr := { Gprs.reset with sp := 0x1000 } }
      (fun t => t.gpr.sp = 0xFFE ∧ t.wordAt 0 0xFFE = 0xFFE) = true
    ∧ after { State.bytes (start [0x5C]) 0xFFE [0x34, 0x12] with gpr := { Gprs.reset with sp := 0xFFE } }
      (fun t => t.gpr.sp = 0x1234) = true := by decide

/-- MOV SS sets `inhibit` for one boundary: the NMI waits (10_state.md R34). -/
theorem test_stack_switch_inhibits :
    after { start [0x8E, 0xD0] with gpr := { Gprs.reset with ax := 0x2000 }, nmiQ := [2] }
      (fun t => t.sreg.ss = 0x2000 ∧ t.nmiQ = [2] ∧ t.inhibit = false ∧ t.ip = 0x102) = true := by decide

/-- IDIV rejects a quotient of -128 (41_arithmetic.md R116); MUL of 80h by 2 carries (R113). -/
theorem test_idiv_limit_and_mul_carry :
    idivResult 8 (-256) 2 = none ∧ idivResult 8 (-254) 2 = some (0x81, 0)
    ∧ after { start [0xF6, 0xE3] with gpr := { Gprs.reset with ax := 0x80, bx := 2 } }
      (fun t => t.gpr.ax = 0x100 ∧ t.flags.cf ∧ t.flags.ofl) = true := by decide

/-- R117, R118: DAA of 79h + 35h, DAS of 35h - 47h. -/
theorem test_decimal_adjust :
    daaResult 0xAE false false = (0x14, true, true) ∧ dasResult 0xEE true true = (0x88, true, true) := by decide

/-- R119, R121, R122: AAA, AAM and AAD of the rules' examples. -/
theorem test_ascii_adjust :
    after { start [0x37] with gpr := { Gprs.reset with ax := 0x000B } } (fun t => t.gpr.ax = 0x0101 ∧ t.flags.cf) = true
    ∧ after { start [0xD4, 0x0A] with gpr := { Gprs.reset with ax := 0x003F } } (fun t => t.gpr.ax = 0x0603) = true
    ∧ after { start [0xD5, 0x0A] with gpr := { Gprs.reset with ax := 0x0603 } } (fun t => t.gpr.ax = 0x003F) = true := by
  decide

/-- A count of CL is not masked: SHL by 33 leaves 0 (42_logic_shift.md R130, decision D26); RCR moves CF in. -/
theorem test_shift_counts :
    after { start [0xD3, 0xE0] with gpr := { Gprs.reset with ax := 0x1234, cx := 33 } } (fun t => t.gpr.ax = 0) = true
    ∧ after { start [0xD0, 0xD8] with gpr := { Gprs.reset with ax := 0x02 }, flags := { Flags.reset with cf := true } }
      (fun t => t.gpr.ax = 0x81 ∧ t.flags.cf = false ∧ t.flags.ofl = true) = true := by decide

/-- 43_string.md R140: one iteration of REP MOVSB with CX = 2, the last one with CX = 1, none with CX = 0. -/
theorem test_rep_movsb_units :
    after { State.bytes (start [0xF3, 0xA4]) 0x200 [0x55] with gpr := { Gprs.reset with cx := 2, si := 0x200, di := 0x300 } }
      (fun t => t.ip = 0x100 ∧ t.gpr.cx = 1 ∧ t.gpr.si = 0x201 ∧ t.gpr.di = 0x301 ∧ t.byteAt 0 0x300 = 0x55
        ∧ t.rep.isSome) = true
    ∧ after { State.bytes (start [0xF3, 0xA4]) 0x200 [0x55] with gpr := { Gprs.reset with cx := 1, si := 0x200, di := 0x300 } }
      (fun t => t.ip = 0x102 ∧ t.gpr.cx = 0 ∧ t.rep = none) = true
    ∧ after { start [0xF3, 0xA4] with gpr := { Gprs.reset with si := 0x200 } }
      (fun t => t.ip = 0x102 ∧ t.gpr.si = 0x200 ∧ t.rep = none) = true := by decide

/-- 44_control_transfer.md R148, R159: JE back to itself; CALL F000:0100. -/
theorem test_jump_and_far_call :
    after { start [0x74, 0xFE] with flags := { Flags.reset with zf := true } } (fun t => t.ip = 0x100) = true
    ∧ after { start [0x9A, 0, 1, 0, 0xF0] with gpr := { Gprs.reset with sp := 0x1000 } }
      (fun t => t.ip = 0x100 ∧ t.sreg.cs = 0xF000 ∧ t.gpr.sp = 0xFFC ∧ t.wordAt 0 0xFFC = 0x105) = true := by decide

/-- 46_processor_control.md R177, R178: HLT; WAIT with TEST not asserted. -/
theorem test_hlt_and_wait :
    after (start [0xF4]) (fun t => t.halted ∧ t.ip = 0x101) = true
    ∧ after { start [0x9B] with testAsserted := false } (fun t => t.ip = 0x100) = true
    ∧ after (start [0x9B]) (fun t => t.ip = 0x101) = true := by decide

/-- 47_undocumented.md R190, R197, R199, 60_exceptions.md R203: the names of refused encodings, and IP at the first byte. -/
theorem test_refusals :
    after (start [0x0F]) (fun t => t.fault = some (.unimplemented "0F") ∧ t.ip = 0x100) = true
    ∧ after (start [0xFE, 0xD0]) (fun t => t.fault = some (.unimplemented "FE /2") ∧ t.ip = 0x100) = true
    ∧ after (start [0xF3, 0xF6, 0xE3]) (fun t => t.fault = some (.unimplemented "F3 + F6 /4") ∧ t.ip = 0x100) = true := by
  decide

/-- 47_undocumented.md R195, R187 under emulate: SALC and OR through 83h. -/
theorem test_emulated :
    after { start [0xD6] with params := ⟨.emulate, true, .allPrefixes, .algorithm⟩, flags := { Flags.reset with cf := true } }
      (fun t => t.gpr.ax = 0xFF) = true
    ∧ after { start [0x83, 0xC8, 0x0F] with
        params := ⟨.emulate, true, .allPrefixes, .algorithm⟩, gpr := { Gprs.reset with ax := 0xF0 } }
      (fun t => t.gpr.ax = 0xFF) = true := by decide

/-- A halted core that an NMI wakes; the bus rejects the read of its vector (60_exceptions.md R202, R217). -/
def stopping : State := { State.reset with halted := true, nmiQ := [2], rejects := [⟨.memory, false, 8, 8, none⟩] }

/-- The three words are pushed before the rejected vector read, and the failure is recorded. -/
theorem test_bus_fault :
    after stopping (fun t => t.fault = some .busFault ∧ t.gpr.sp = 0xFFFA ∧ t.halted ∧ t.wordAt 0 0xFFFC = 0xFFFF) = true := by
  decide

/-- 20_memory.md R40: any call may be rejected, here the second read of the vector alone, call number 7 (60_exceptions.md R212:
six writes, then four reads). -/
theorem test_rejected_call :
    after { stopping with rejects := [⟨.memory, false, 0, 0xFFFFF, some 7⟩] }
      (fun t => t.fault = some .busFault ∧ t.busLog.head? = some (.read 8 0) ∧ t.busLog.length = 7) = true := by decide

/-- 60_exceptions.md R218: a unit counts one, an idle core none, a core stopped with a failure none. -/
theorem test_step_n_counts :
    (stepN 1 (start [0x90])).count = 1 ∧ (stepN 2 { start [0x90] with halted := true }).count = 0
    ∧ (stepN 1 (start [0x0F])).count = 0 ∧ (stepN 1 (start [0x0F])).fault = some (.unimplemented "0F") := by decide

/-! ## Witnesses: states that meet the hypotheses of the obligations -/

/-- Reset with UNDOC_POLICY = emulate. -/
def emulating : State := { State.reset with params := ⟨.emulate, true, .allPrefixes, .algorithm⟩ }

theorem emulating_accepts : emulating.accepts := fun _ _ _ _ => rfl

/-- A byte string for the machine to run, with an accepting collaborator. -/
theorem start_accepts (code : List Byte) : (start code).accepts := fun _ _ _ _ => rfl

theorem test_witness_DecodeOfEncode :
    (Instr.mul (.b (.reg .bl))).wf = true ∧ repContext false (.mul (.b (.reg .bl)))
      ∧ (Instr.repMulDiv .idiv (.w (.mem (.disp16 .bp 0xFFFF)))).wf = true
      ∧ repContext true (.repMulDiv .idiv (.w (.mem (.disp16 .bp 0xFFFF))))
      ∧ (Instr.mov (.ovAx 0xFFFF)).wf = true ∧ repContext true (.mov (.ovAx 0xFFFF)) :=
  ⟨rfl, rfl, rfl, rfl, rfl, trivial⟩

theorem test_witness_EncodeOfDecode :
    6 ≤ [0xC7, 0x06, 0x34, 0x12, 0x78, (0x56 : Byte)].length
      ∧ decode false [0xC7, 0x06, 0x34, 0x12, 0x78, 0x56] = .ok (.movEvIv (.mem (.direct 0x1234)) 0x5678, []) := by
  decide

theorem test_witness_WordAccess : State.reset.accepts := State.reset_accepts

theorem test_witness_StoreThenLoad :
    State.reset.accepts ∧ State.reset.mem.wf = true ∧ ∃ t, store16 .exec 0xFFFF 0xFFFF 0x1200 State.reset = .ok () t :=
  ⟨State.reset_accepts, rfl, _, rfl⟩

/-- An empty queue, and a full one. -/
theorem test_witness_FillPoint :
    (State.reset.accepts ∧ State.reset.queue.length ≤ Config.queueSize)
      ∧ ∃ s : State, s.accepts ∧ s.queue.length = Config.queueSize :=
  ⟨⟨State.reset_accepts, by decide⟩, { State.reset with queue := [1, 2, 3, 4] }, fun _ _ _ _ => rfl, rfl⟩

theorem test_witness_FetchNextByte :
    (State.reset.accepts ∧ State.reset.queue = [] ∧ ∃ t, consume 1 State.reset = .ok () t)
      ∧ ∃ s : State, s.accepts ∧ s.queue = 0xFF :: [] ∧ ∃ t, consume 1 s = .ok () t :=
  ⟨⟨State.reset_accepts, rfl, _, rfl⟩, { State.reset with queue := [0xFF] }, fun _ _ _ _ => rfl, rfl, _, rfl⟩

/-- REP, CS:, MOVSB; and no prefix at all. -/
theorem test_witness_PrefixesScanned :
    (let s := start [0xF3, 0x2E, 0xA4]
     (∀ p ∈ [Instr.rep, .segCs], p.isPrefix = true)
      ∧ (List.range 2).map s.peek = [Instr.rep, .segCs].flatMap encode
      ∧ decode ([Instr.rep, .segCs].any Instr.isRepPrefix) (s.window 2) = .ok (.movsb, [0, 0, 0, 0, 0])
      ∧ Instr.movsb.isPrefix = false)
    ∧ decode false ((start [0x90]).window 0) = .ok (.nop, [0, 0, 0, 0, 0]) := by decide

theorem test_witness_StepRunsInstruction :
    (start [0xFB]).fault = none ∧ (start [0xFB]).halted = false ∧ (start [0xFB]).rep = none ∧ (start [0xFB]).accepts
      ∧ decode false ((start [0xFB]).window 0) = .ok (.sti, [0, 0, 0, 0, 0]) ∧ Instr.sti.isPrefix = false :=
  ⟨rfl, rfl, rfl, start_accepts _, by decide, by decide⟩

/-- A repetition of STOSB in progress. -/
def repeating (p : RepResume) : State :=
  { start [0xF3, 0xAA] with
    gpr := { Gprs.reset with cx := 5, sp := 0x800 }
    params := ⟨.refuse, true, p, .algorithm⟩
    rep := some ⟨.stosb, { Prefixes.none with start := 0x100, count := 1, rep := some .repe }, 0x102⟩
    fetchIp := 0x102 }

theorem test_witness_StepRunsPrefixedOrRepeated :
    ((start [0xF3, 0xAA]).fault = none ∧ (start [0xF3, 0xAA]).halted = false ∧ (start [0xF3, 0xAA]).accepts
        ∧ (start [0xF3, 0xAA]).rep = none ∧ (start [0xF3, 0xAA]).scan = some ⟨[.rep], .stosb, 2⟩)
      ∧ (repeating .allPrefixes).fault = none ∧ (repeating .allPrefixes).halted = false
      ∧ (repeating .allPrefixes).accepts ∧ (repeating .allPrefixes).rep ≠ none :=
  ⟨⟨rfl, rfl, start_accepts _, rfl, by decide⟩, rfl, rfl, fun _ _ _ _ => rfl, by decide⟩

theorem test_witness_FaultSticky : State.reset.busFault.fault = some .busFault := rfl

/-- Idle with a masked request pending; woken by an NMI; woken by a maskable request; an internal request taken under
`inhibit`; `inhibit` with nothing to take. -/
theorem test_witness_HaltedCore :
    (let s := { State.reset with halted := true, intrQ := [8] }
     s.fault = none ∧ s.halted = true ∧ s.nmiQ = [] ∧ s.flags.ifl = false)
    ∧ (∃ s : State, s.accepts ∧ s.fault = none ∧ s.halted = true ∧ s.inhibit = false ∧ s.nmiQ ≠ [])
    ∧ (∃ s : State, s.accepts ∧ s.fault = none ∧ s.halted = true ∧ s.inhibit = false ∧ s.flags.ifl = true ∧ s.intrQ ≠ [])
    ∧ (∃ s : State, s.accepts ∧ s.fault = none ∧ s.halted = true ∧ s.nmiQ ≠ [] ∧ s.inhibit = true ∧ s.internalReq ≠ none)
    ∧ ∃ s : State, s.fault = none ∧ s.halted = true ∧ s.nmiQ ≠ [] ∧ s.inhibit = true ∧ s.internalReq = none :=
  ⟨by decide,
    ⟨{ State.reset with halted := true, nmiQ := [2] }, fun _ _ _ _ => rfl, rfl, rfl, rfl, by decide⟩,
    ⟨{ State.reset with halted := true, intrQ := [8], flags := { Flags.reset with ifl := true } }, fun _ _ _ _ => rfl, rfl,
      rfl, rfl, rfl, by decide⟩,
    ⟨{ State.reset with halted := true, nmiQ := [2], inhibit := true, internalReq := some 0 }, fun _ _ _ _ => rfl, rfl, rfl,
      by decide, rfl, by decide⟩,
    { State.reset with halted := true, nmiQ := [2], inhibit := true }, rfl, rfl, by decide, rfl, rfl⟩

theorem reset_inv : State.reset.Inv := ⟨rfl, rfl, rfl, .inr (by decide)⟩

/-- From reset, in the middle of a repetition, and stopped with a fault on the way. -/
theorem test_witness_StepKeepsInv :
    (State.reset.Inv ∧ ∃ t, step State.reset = .next t)
      ∧ ((repeating .lastPrefixOnly).Inv ∧ ∃ t, step (repeating .lastPrefixOnly) = .next t)
      ∧ ∃ s t : State, s.Inv ∧ step s = .next t ∧ t.fault = some .busFault := by
  refine ⟨⟨reset_inv, _, rfl⟩, ⟨⟨rfl, rfl, by decide, .inr (by decide)⟩, _, rfl⟩, stopping, ?_⟩
  exact ⟨_, ⟨by decide, rfl, rfl, .inr (by decide)⟩, rfl, by decide⟩

/-- PUSH AX: the two bytes it stores change. -/
theorem test_witness_MemoryChangesAreWrites :
    ∃ s t : State, s.mem.wf = true ∧ step s = .next t ∧ t.mem.read 0xFFFE ≠ s.mem.read 0xFFFE :=
  ⟨{ start [0x50] with gpr := { Gprs.reset with ax := 0xABCD } }, _, by decide, rfl, by decide⟩

/-- Bytes just outside a pushed word; any byte for a form that stores nothing. -/
theorem test_witness_MemoryFrame :
    (∃ t, exec .pushAx State.reset = .next t ∧ (0xFFFD : Addr) ∉ storesOf .pushAx State.reset
        ∧ (0x10000 : Addr) ∉ storesOf .pushAx State.reset ∧ (0xFFFE : Addr) ∈ storesOf .pushAx State.reset)
      ∧ ∃ t, exec (.cmp (.ebIb (.mem (.direct 0)) 1)) State.reset = .next t :=
  ⟨⟨_, rfl, by decide, by decide, by decide⟩, _, rfl⟩

theorem test_witness_PortsOnlyByInOut : ∃ t, exec .movsw State.reset = .next t ∧ usesPorts .movsw = false := ⟨_, rfl, rfl⟩

/-- POPF sets TF, IF and DF; RETF changes CS. -/
theorem test_witness_ControlWriters :
    (∃ s t : State, exec .popf s = .next t ∧ t.flags.tf ≠ s.flags.tf ∧ t.flags.ifl ≠ s.flags.ifl ∧ t.flags.df ≠ s.flags.df)
      ∧ ∃ t, exec .retf State.reset = .next t ∧ t.sreg.cs ≠ State.reset.sreg.cs :=
  ⟨⟨State.bytes State.reset 0 [0, 7], _, rfl, by decide, by decide, by decide⟩, _, rfl, by decide⟩

theorem test_witness_ControlStateFrame :
    (∃ t, exec .hlt State.reset = .next t ∧ t.halted ≠ State.reset.halted)
      ∧ (∃ t, exec .into { State.reset with flags := { Flags.reset with ofl := true } } = .next t ∧ t.internalReq ≠ none)
      ∧ ∃ s t : State, exec .stosb s = .next t ∧ t.rep ≠ s.rep :=
  ⟨⟨_, rfl, by decide⟩, ⟨_, rfl, by decide⟩,
    { State.reset with gpr := { Gprs.reset with cx := 2 }, pfx := { Prefixes.none with rep := some .repe } }, _, rfl, by decide⟩

/-- Each rank of the priority order, and each reason to take nothing. -/
theorem test_witness_ServicePriority :
    (∃ s : State, s.internalReq = some 0xFF ∧ s.inhibit = true)
      ∧ (∃ s : State, s.internalReq = none ∧ s.inhibit = true)
      ∧ (∃ s : State, s.internalReq = none ∧ s.inhibit = false ∧ s.nmiQ = [2])
      ∧ (∃ s : State, s.internalReq = none ∧ s.inhibit = false ∧ s.nmiQ = [] ∧ s.flags.ifl = true ∧ s.intrQ = [8])
      ∧ (∃ s : State, s.internalReq = none ∧ s.inhibit = false ∧ s.nmiQ = [] ∧ s.flags.ifl = false ∧ s.intrQ = [8])
      ∧ ∃ s : State, s.internalReq = none ∧ s.inhibit = false ∧ s.nmiQ = [] ∧ s.intrQ = [] ∧ s.ssLatch = true :=
  ⟨⟨{ State.reset with internalReq := some 0xFF, inhibit := true }, rfl, rfl⟩,
    ⟨{ State.reset with inhibit := true }, rfl, rfl⟩, ⟨{ State.reset with nmiQ := [2] }, rfl, rfl, rfl⟩,
    ⟨{ State.reset with intrQ := [8], flags := { Flags.reset with ifl := true } }, rfl, rfl, rfl, rfl, rfl⟩,
    ⟨{ State.reset with intrQ := [8] }, rfl, rfl, rfl, rfl, rfl⟩, { State.reset with ssLatch := true }, rfl, rfl, rfl, rfl, rfl⟩

theorem test_witness_ServiceChainDrains :
    ∃ s : State, s.accepts ∧ s.inhibit = false ∧ s.internalReq = some 0 ∧ s.nmiQ = [2] :=
  ⟨{ State.reset with internalReq := some 0, nmiQ := [2] }, fun _ _ _ _ => rfl, rfl, rfl, rfl⟩

/-- Without a repetition, and during one under each REP_RESUME. -/
theorem test_witness_InterruptEntry :
    (State.reset.accepts ∧ State.reset.rep = none)
      ∧ ((repeating .allPrefixes).accepts ∧ (repeating .allPrefixes).returnAddress = 0x100)
      ∧ ((repeating .lastPrefixOnly).accepts ∧ (repeating .lastPrefixOnly).returnAddress = 0x100) :=
  ⟨⟨State.reset_accepts, rfl⟩, ⟨fun _ _ _ _ => rfl, by decide⟩, fun _ _ _ _ => rfl, by decide⟩

theorem test_witness_EntryThenIret :
    State.reset.accepts ∧ State.reset.mem.wf = true ∧ ∃ t, intEntry 0xFF State.reset = .ok () t :=
  ⟨State.reset_accepts, rfl, _, rfl⟩

theorem test_witness_SingleStepTrap :
    (State.reset.fault = none ∧ State.reset.accepts ∧ State.reset.internalReq = none ∧ State.reset.nmiQ = []
        ∧ State.reset.flags.ifl = false ∧ State.reset.inhibit = false ∧ State.reset.ssLatch = false)
      ∧ ∃ t : State, t.fault = none ∧ t.accepts ∧ t.internalReq = none ∧ t.nmiQ = [] ∧ t.flags.ifl = true ∧ t.intrQ = []
        ∧ t.inhibit = true :=
  ⟨⟨rfl, State.reset_accepts, rfl, rfl, rfl, rfl, rfl⟩,
    { State.reset with inhibit := true, flags := { Flags.reset with ifl := true } }, rfl, fun _ _ _ _ => rfl, rfl, rfl, rfl, rfl,
    rfl⟩

/-- Reset with every access of this kind to `a` rejected. -/
def rejecting (sp : Space) (wr : Bool) (a : Nat) : State := { State.reset with rejects := [⟨sp, wr, a, a, none⟩] }

theorem rejecting_at (sp : Space) (wr : Bool) (a n : Nat) (sp' : Space) (wr' : Bool) (a' : Nat) :
    (rejecting sp wr a).rejectedAt n sp' wr' a' = true ↔ sp' = sp ∧ wr' = wr ∧ a' = a := by
  simp only [rejecting, State.rejectedAt, List.any_cons, List.any_nil, Bool.or_false, Reject.covers, Option.all_none,
    Bool.and_true, Bool.and_eq_true, decide_eq_true_eq, beq_iff_eq]
  constructor
  · rintro ⟨⟨⟨hs, hw⟩, hl⟩, hh⟩
    exact ⟨hs.symm, hw.symm, Nat.le_antisymm hh hl⟩
  · rintro ⟨rfl, rfl, rfl⟩
    exact ⟨⟨⟨rfl, rfl⟩, Nat.le_refl _⟩, Nat.le_refl _⟩

theorem rejecting_next (sp : Space) (wr : Bool) (a : Nat) : (rejecting sp wr a).rejectsNext sp wr a := fun _ _ =>
  (rejecting_at sp wr a _ sp wr a).2 ⟨rfl, rfl, rfl⟩

/-- Each primitive at the end of its space; only the fifth call from here on rejected; the first fetch, and the last byte of
the first instruction; a word store at FFFFh of which only the second byte, at offset 0, is rejected; the first push of an
entry, at SS:FFFE. -/
theorem test_witness_RejectedAccess :
    (∃ s : State, s.rejectsNext .memory false (phys (s.segOr .ds) 0xFFFF).toNat)
      ∧ (∃ s : State, s.rejectsNext .memory true (0xFFFFF : Addr).toNat)
      ∧ (∃ s : State, s.rejectsNext .io false (0xFFFF : Word).toNat) ∧ (∃ s : State, s.rejectsNext .io true (0 : Word).toNat)
      ∧ (∃ s : State, s.firstRejectedFetch 4 ∧ s.queue.length + 4 < 5)
      ∧ (∃ s : State, s.fault = none ∧ s.halted = false ∧ s.rep = none ∧ s.firstRejectedFetch 0
          ∧ ∀ c, s.scan = some c → s.queue.length + 0 < c.length)
      ∧ (∃ s : State, s.fault = none ∧ s.halted = false ∧ s.rep = none ∧ s.firstRejectedFetch 1
          ∧ ∀ c, s.scan = some c → s.queue.length + 1 < c.length)
      ∧ (∃ s : State, ∀ n sp wr a, s.rejectedAt n sp wr a = true ↔
          sp = .memory ∧ wr = true ∧ a = (phys (s.segOr .ds) (0xFFFF + 1)).toNat)
      ∧ (∃ s : State, s.rejectsNext .memory true (phys s.sreg.ss (s.gpr.sp - 2)).toNat)
      ∧ State.reset.busFault.fault = some .busFault :=
  ⟨⟨rejecting .memory false 0xFFFF, rejecting_next .memory false 0xFFFF⟩,
    ⟨rejecting .memory true 0xFFFFF, rejecting_next .memory true 0xFFFFF⟩,
    ⟨rejecting .io false 0xFFFF, rejecting_next .io false 0xFFFF⟩, ⟨rejecting .io true 0, rejecting_next .io true 0⟩,
    ⟨{ State.reset with rejects := [⟨.memory, false, 0, 0xFFFFF, some 4⟩] }, ⟨by decide, by decide⟩, by decide⟩,
    ⟨rejecting .memory false 0xFFFF0, rfl, rfl, rfl, ⟨by decide, by decide⟩, fun c h => by
      rw [show (rejecting .memory false 0xFFFF0).scan = some ⟨[], .add (.ebGb (.mem (.base .bxSi)) .al), 2⟩ by decide] at h
      cases h
      decide⟩,
    ⟨rejecting .memory false 0xFFFF1, rfl, rfl, rfl, ⟨by decide, by decide⟩, fun c h => by
      rw [show (rejecting .memory false 0xFFFF1).scan = some ⟨[], .add (.ebGb (.mem (.base .bxSi)) .al), 2⟩ by decide] at h
      cases h
      decide⟩,
    ⟨rejecting .memory true 0, fun n sp wr a => rejecting_at .memory true 0 n sp wr a⟩,
    ⟨rejecting .memory true 0xFFFE, rejecting_next .memory true 0xFFFE⟩, rfl⟩

/-- The bus fault of a step whose first byte cannot be fetched (60_exceptions.md R202, decision D47): the fetch of either a fill or the
decoder is the rejected one. -/
theorem test_rejected_fetch : ∃ t, fetchUnit 2 (rejecting .memory false 0xFFFF0) = .stop t ∧ t.fault = some .busFault := by
  have h : (rejecting .memory false 0xFFFF0).firstRejectedFetch 0 := ⟨by decide, by decide⟩
  have d : ((rejecting .memory false 0xFFFF0).drew 1).firstRejectedFetch 0 := ⟨by decide, by decide⟩
  rw [fetchUnit, fill]
  rcases Nat.eq_zero_or_pos (rejecting .memory false 0xFFFF0).fillCount with e | e
  · rw [e]
    exact ⟨_, rfl, rfl⟩
  · rw [prefetch_rejected d e]
    exact ⟨_, rfl, rfl⟩

/-- An idle core ends `step_n` early. -/
theorem test_witness_StepNCount : (stepN 1 { State.reset with halted := true }).count < 1 := by decide

/-- One witness for the statements about instructions whose only hypotheses are an accepting bus and UNDOC_POLICY = emulate:
MovForms, MovSegment, PushForms, PopForms, LogicForms, Returns, UndocumentedOperations, ProcessorControl and
ConditionalJumps; with `reg` at both ends of its range, and a segment register that is not CS. -/
theorem test_witness_emulating :
    emulating.accepts ∧ emulating.params.undoc = .emulate ∧ ((0 : BitVec 3) = 0 ∨ emulating.params.undoc = .emulate)
      ∧ ((7 : BitVec 3) = 0 ∨ emulating.params.undoc = .emulate) ∧ SReg.ds ≠ .cs ∧ emulating.reg8 .cl = 0
      ∧ ∃ s : State, s.accepts ∧ s.params.undoc = .emulate ∧ s.reg8 .cl ≠ 0 :=
  ⟨emulating_accepts, rfl, .inl rfl, .inr rfl, by decide, rfl,
    { emulating with gpr := { Gprs.reset with cx := 0xFF } }, emulating_accepts, rfl, by decide⟩

/-- One witness for those whose only hypothesis is an accepting bus: Exchange, TableAndPointerLoads, PortTransfers, AddForms,
SubtractForms, IncrementDecrement, NegateComplement, MultiplyForms, DivideForms and IndirectJumpsAndCalls. -/
theorem test_witness_accepting : State.reset.accepts := State.reset_accepts

/-- Both values of DAA_NONBCD. -/
theorem test_witness_DecimalAdjust :
    State.reset.params.daaNonBcd = .algorithm ∧ ∃ s : State, s.params.daaNonBcd = .any :=
  ⟨rfl, { State.reset with params := ⟨.refuse, true, .allPrefixes, .any⟩ }, rfl⟩

/-- 99 + 99, and 0 + 0. -/
theorem test_witness_DecimalAddition :
    (∃ s u : State, 99 < 100 ∧ s.reg8 .al = BitVec.ofNat 8 (99 / 10 * 16 + 99 % 10) ∧
        exec (.add (.alIb (BitVec.ofNat 8 (99 / 10 * 16 + 99 % 10)))) s = .next u)
      ∧ ∃ u, State.reset.reg8 .al = BitVec.ofNat 8 (0 / 10 * 16 + 0 % 10) ∧
        exec (.add (.alIb (BitVec.ofNat 8 (0 / 10 * 16 + 0 % 10)))) State.reset = .next u :=
  ⟨⟨{ State.reset with gpr := { Gprs.reset with ax := 0x99 } }, _, by decide, by decide, rfl⟩, _, by decide, rfl⟩

theorem test_witness_RadixAdjustAndExtend : (0 : Byte) = 0 ∧ (1 : Byte) ≠ 0 ∧ (0xFF : Byte) ≠ 0 := by decide

/-- Counts of 0, 1 and 255. -/
theorem test_witness_ShiftForms :
    State.reset.accepts ∧ (State.reset.reg8 .cl).toNat = 0 ∧ 0 < 1
      ∧ ∃ s : State, s.accepts ∧ (s.reg8 .cl).toNat = 255 :=
  ⟨State.reset_accepts, by decide, by decide, { State.reset with gpr := { Gprs.reset with cx := 0xFF } }, fun _ _ _ _ => rfl,
    by decide⟩

/-- No prefix; CX = 0; the last element; an element after which the repetition goes on; a compare that ends it. -/
theorem test_witness_StringUnit :
    (State.reset.accepts ∧ State.reset.pfx.rep = none)
      ∧ (∃ s : State, s.accepts ∧ s.pfx.rep = some .repe ∧ s.gpr.cx = 0)
      ∧ (∃ s : State, s.accepts ∧ s.pfx.rep = some .repne ∧ s.gpr.cx = 1 ∧ StrOp.movs.ends .repne 0 false)
      ∧ (∃ s : State, s.accepts ∧ s.pfx.rep = some .repne ∧ s.gpr.cx = 0xFFFF ∧ ¬ StrOp.movs.ends .repne 0xFFFE true)
      ∧ StrOp.scas.ends .repe 0xFFFE false ∧ StrOp.cmps.ends .repne 1 true ∧ ¬ StrOp.cmps.ends .repe 1 true := by
  refine ⟨⟨State.reset_accepts, rfl⟩,
    ⟨{ State.reset with pfx := { Prefixes.none with rep := some .repe } }, fun _ _ _ _ => rfl, rfl, rfl⟩,
    ⟨{ State.reset with pfx := { Prefixes.none with rep := some .repne }, gpr := { Gprs.reset with cx := 1 } },
      fun _ _ _ _ => rfl, rfl, rfl, .inl rfl⟩,
    ⟨{ State.reset with pfx := { Prefixes.none with rep := some .repne }, gpr := { Gprs.reset with cx := 0xFFFF } },
      fun _ _ _ _ => rfl, rfl, rfl, by simp [StrOp.ends, StrOp.compares]⟩, ?_, ?_, ?_⟩ <;> simp [StrOp.ends, StrOp.compares]

/-- A taken and an untaken jump, under emulate. -/
theorem test_witness_ConditionalJumps :
    condTaken .no emulating.flags ∧ ¬ condTaken .o emulating.flags ∧ condTaken .ge emulating.flags
      ∧ ¬ condTaken .le emulating.flags ∧ emulating.params.undoc = .emulate := by
  simp [condTaken, emulating, State.reset, Flags.reset]

theorem test_witness_ConditionsAfterCompare : (8 : Nat) = 8 ∨ (8 : Nat) = 16 := .inl rfl

/-- OF set and clear, and a state in which INT n is taken at once. -/
theorem test_witness_SoftwareInterrupts :
    State.reset.flags.ofl = false ∧ (∃ s : State, s.flags.ofl = true)
      ∧ State.reset.fault = none ∧ State.reset.nmiQ = [] ∧ State.reset.accepts ∧ State.reset.ssLatch = false
      ∧ State.reset.inhibit = false :=
  ⟨rfl, ⟨{ State.reset with flags := { Flags.reset with ofl := true } }, rfl⟩, rfl, rfl, State.reset_accepts, rfl, rfl⟩

theorem test_witness_ProcessorControl :
    State.reset.testAsserted = true ∧ ∃ s : State, s.testAsserted = false :=
  ⟨rfl, { State.reset with testAsserted := false }, rfl⟩

theorem test_witness_RefusedEncodings :
    (isUndocumented .salc = true ∧ State.reset.params.undoc = .refuse) ∧ isUndocumented .lockF1 = true
      ∧ isClassC (.fe7 (.reg .bh)) = true ∧ isClassC (.repMulDiv .mul (.b (.reg .al))) = true := by decide

theorem test_witness_ResetInv : State.reset.mem.wf = true := rfl

end Sys2Proof.Machine.Tests
end

section
/-! SUPPORT. What the host's operations `reset()` and `raise_request` do to each field of the state, and what `step()`
answers in a state with a recorded failure; then the proofs of the state's obligations. -/

namespace Sys2Proof.Machine

/-! ## The fields after reset -/

@[simp] theorem State.resetWith_gpr (s : State) (g : Gprs) : (s.resetWith g).gpr = g := rfl
@[simp] theorem State.resetWith_sreg (s : State) (g : Gprs) : (s.resetWith g).sreg = Sregs.reset := rfl
@[simp] theorem State.resetWith_ip (s : State) (g : Gprs) : (s.resetWith g).ip = 0 := rfl
@[simp] theorem State.resetWith_flags (s : State) (g : Gprs) : (s.resetWith g).flags = Flags.reset := rfl
@[simp] theorem State.resetWith_queue (s : State) (g : Gprs) : (s.resetWith g).queue = [] := rfl
@[simp] theorem State.resetWith_fetchIp (s : State) (g : Gprs) : (s.resetWith g).fetchIp = 0 := rfl
@[simp] theorem State.resetWith_halted (s : State) (g : Gprs) : (s.resetWith g).halted = false := rfl
@[simp] theorem State.resetWith_internalReq (s : State) (g : Gprs) : (s.resetWith g).internalReq = none := rfl
@[simp] theorem State.resetWith_nmiQ (s : State) (g : Gprs) : (s.resetWith g).nmiQ = [] := rfl
@[simp] theorem State.resetWith_intrQ (s : State) (g : Gprs) : (s.resetWith g).intrQ = [] := rfl
@[simp] theorem State.resetWith_ssLatch (s : State) (g : Gprs) : (s.resetWith g).ssLatch = false := rfl
@[simp] theorem State.resetWith_inhibit (s : State) (g : Gprs) : (s.resetWith g).inhibit = false := rfl
@[simp] theorem State.resetWith_rep (s : State) (g : Gprs) : (s.resetWith g).rep = none := rfl
@[simp] theorem State.resetWith_fault (s : State) (g : Gprs) : (s.resetWith g).fault = none := rfl
@[simp] theorem State.resetWith_mem (s : State) (g : Gprs) : (s.resetWith g).mem = s.mem := rfl
@[simp] theorem State.resetWith_busLog (s : State) (g : Gprs) : (s.resetWith g).busLog = s.busLog := rfl

/-- The values of 10_state.md R38: CS selects the segment of the reset vector, the others are 0. -/
@[simp] theorem Sregs.reset_cs : Sregs.reset.cs = 0xFFFF := rfl
@[simp] theorem Sregs.reset_ds : Sregs.reset.ds = 0 := rfl
@[simp] theorem Sregs.reset_ss : Sregs.reset.ss = 0 := rfl
@[simp] theorem Sregs.reset_es : Sregs.reset.es = 0 := rfl

/-- With every flag clear the image holds only the bits that are always one (10_state.md R27). -/
@[simp] theorem flagsImage_reset : flagsImage Flags.reset = 0xF002 := by decide

/-! ## The first fetch -/

/-- The BIU reads next at CS:fetch_ip (20_memory.md R57). -/
theorem State.fetchAddr_zero (s : State) : s.fetchAddr 0 = phys s.sreg.cs s.fetchIp := by
  simp [State.fetchAddr]

/-- The reset vector (10_state.md R38). -/
theorem phys_resetVector : phys 0xFFFF 0 = 0xFFFF0 := by decide

theorem State.resetWith_fetchAddr_zero (s : State) (g : Gprs) : (s.resetWith g).fetchAddr 0 = 0xFFFF0 :=
  calc (s.resetWith g).fetchAddr 0
    _ = phys (s.resetWith g).sreg.cs (s.resetWith g).fetchIp := State.fetchAddr_zero _
    _ = phys 0xFFFF 0 := by simp
    _ = 0xFFFF0 := phys_resetVector

/-! ## Raised requests -/

theorem State.raiseRequest_nmi (s : State) (v : Byte) : s.raiseRequest v false = { s with nmiQ := s.nmiQ ++ [v] } := rfl
theorem State.raiseRequest_maskable (s : State) (v : Byte) :
    s.raiseRequest v true = { s with intrQ := s.intrQ ++ [v] } := rfl

/-! ## A recorded failure -/

/-- 60_exceptions.md R217: `step()` looks at the recorded failure before anything else. -/
theorem step_of_fault {s : State} {f : Terminal} (hfault : s.fault = some f) : step s = .fault (.stopped f) := by
  simp [step, stepState, hfault]

/-! ## The obligations -/

/-- Settles O13: `step` answers a recorded failure at once, and `reset()` starts from a record without one. -/
theorem faultSticky : Obligations.FaultSticky :=
  fun s _ hfault => ⟨step_of_fault hfault, fun g => s.resetWith_fault g⟩

/-- Settles O29: field by field after reset, the reset vector for the first fetch, and one queue per kind of request. -/
theorem resetAndRequests : Obligations.ResetAndRequests := by
  refine ⟨fun s g => ?_, fun s v => ⟨s.raiseRequest_nmi v, s.raiseRequest_maskable v⟩⟩
  simp [State.resetWith_fetchAddr_zero]

end Sys2Proof.Machine
end

section
/-! SUPPORT. The physical address as a number; which data transactions the operations over memory make, with any
collaborator and with one that accepts; and the state after `n` bytes of the instruction stream are consumed. Then the proofs
of the memory's obligations. -/

namespace Sys2Proof.Machine

/-! ## Physical addresses (20_memory.md R43) -/

theorem phys_toNat (seg off : Word) : (phys seg off).toNat = (seg.toNat * 16 + off.toNat) % 2 ^ 20 :=
  BitVec.toNat_ofNat _ _

/-! ## The data transactions of a log -/

@[simp] theorem dataOps_append (l m : List BusOp) : dataOps (l ++ m) = dataOps l ++ dataOps m :=
  List.filter_append ..

@[simp] theorem dataOps_read_cons (a : Addr) (v : Byte) (l : List BusOp) :
    dataOps (.read a v :: l) = .read a v :: dataOps l := rfl

@[simp] theorem dataOps_write_cons (a : Addr) (v : Byte) (l : List BusOp) :
    dataOps (.write a v :: l) = .write a v :: dataOps l := rfl

/-- The BIU's own reads are not data transactions (20_memory.md R58). -/
@[simp] theorem State.dataOps_fetchOps (s : State) (k : Nat) : dataOps (s.fetchOps k) = [] := by
  simp [dataOps, State.fetchOps, BusOp.isFetch]

/-- What holds of every value and state `r` can answer holds of those it answers. -/
theorem Res.Post.of_ok {α : Type} {r : Res α} {Q : α → State → Prop} {E : State → Prop} {a : α} {t : State}
    (h : r.Post Q E) (e : r = .ok a t) : Q a t := by
  subst e
  exact h

theorem prefetch_dataOps (k : Nat) (s : State) :
    (prefetch k s).Post (fun _ t => dataOps t.busLog = dataOps s.busLog) (fun t => dataOps t.busLog = dataOps s.busLog) := by
  unfold prefetch
  split <;> simp [Res.Post]

/-- A fill point makes no data transaction, even where it stops. -/
theorem fillPoint_dataOps (ph : Phase) (s : State) :
    (fillPoint ph s).Post (fun _ t => dataOps t.busLog = dataOps s.busLog)
      (fun t => dataOps t.busLog = dataOps s.busLog) := by
  cases ph with
  | exec => exact prefetch_dataOps _ (s.drew 1)
  | entry => rfl

/-- A byte read is one data transaction, after those before it; a rejected one makes none. -/
theorem memRead_dataOps (ph : Phase) (a : Addr) (s : State) :
    (memRead ph a s).Post (fun v t => dataOps t.busLog = .read a v :: dataOps s.busLog)
      (fun t => dataOps t.busLog = dataOps s.busLog) := by
  refine (fillPoint_dataOps ph s).bind fun _ t h => ?_
  split
  · exact h
  · simp [Res.Post, h]

theorem memWrite_dataOps (ph : Phase) (a : Addr) (v : Byte) (s : State) :
    (memWrite ph a v s).Post (fun _ t => dataOps t.busLog = .write a v :: dataOps s.busLog)
      (fun t => dataOps t.busLog = dataOps s.busLog) := by
  refine (fillPoint_dataOps ph s).bind fun _ t h => ?_
  split
  · exact h
  · simp [Res.Post, h]

/-! ## Word accesses on an accepting bus (20_memory.md R47, R48) -/

theorem load16_ok {s : State} (ph : Phase) (seg off : Word) (h : s.accepts) :
    ∃ t, load16 ph seg off s = .ok (s.wordAt seg off) t ∧ t = s.withBiu t ∧
      dataOps t.busLog = .read (phys seg (off + 1)) (s.byteAt seg (off + 1)) :: .read (phys seg off) (s.byteAt seg off)
        :: dataOps s.busLog := by
  obtain ⟨t, et, ht⟩ := memRead_ok ph (phys seg off) h
  have hmem : t.mem = s.mem := by rw [ht]; rfl
  obtain ⟨u, eu, hu⟩ := memRead_ok (s := t) ph (phys seg (off + 1)) (State.accepts_of_eq h (by rw [ht]; rfl))
  have low := (memRead_dataOps ph _ s).of_ok et
  have high := (memRead_dataOps ph _ t).of_ok eu
  refine ⟨u, ?_, ?_, ?_⟩
  · simp only [load16, et, eu, Res.bind, hmem]
    rfl
  · rw [ht] at hu
    exact hu
  · rw [high, low, hmem]
    rfl

theorem store16_ok {s : State} (ph : Phase) (seg off v : Word) (h : s.accepts) :
    ∃ t, store16 ph seg off v s = .ok () t ∧ t = (s.putWord seg off v).withBiu t ∧
      dataOps t.busLog = .write (phys seg (off + 1)) (highByte v) :: .write (phys seg off) (lowByte v)
        :: dataOps s.busLog := by
  obtain ⟨t, et, ht⟩ := memWrite_ok ph (phys seg off) (lowByte v) h
  obtain ⟨u, eu, hu⟩ :=
    memWrite_ok (s := t) ph (phys seg (off + 1)) (highByte v) (State.accepts_of_eq h (by rw [ht]; rfl))
  have low := (memWrite_dataOps ph _ _ s).of_ok et
  have high := (memWrite_dataOps ph _ _ t).of_ok eu
  refine ⟨u, ?_, ?_, ?_⟩
  · rw [store16, et, Res.bind, eu]
  · rw [ht] at hu
    exact hu
  · rw [high, low]

/-! ## The instruction stream (20_memory.md R57) -/

/-- The fetches of `j` bytes leave the next ones where they were. -/
@[simp] theorem State.appended_fetchAddr (s : State) (j i : Nat) : (s.appended j).fetchAddr i = s.fetchAddr (j + i) := by
  simp [State.fetchAddr, BitVec.ofNat_add, BitVec.add_assoc]

theorem State.fetchBytes_add (s : State) (j k : Nat) :
    s.fetchBytes (j + k) = s.fetchBytes j ++ (s.appended j).fetchBytes k := by
  simp [State.fetchBytes, List.range_add]

theorem State.fetchOps_add (s : State) (j k : Nat) :
    s.fetchOps (j + k) = (s.appended j).fetchOps k ++ s.fetchOps j := by
  simp [State.fetchOps, List.range_add]

/-- The BIU appends bytes one at a time or in any groups to the same effect. -/
theorem State.appended_add (s : State) (j k : Nat) : s.appended (j + k) = (s.appended j).appended k := by
  rw [State.appended, s.fetchBytes_add, s.fetchOps_add, BitVec.ofNat_add, ← BitVec.add_assoc, List.append_assoc,
    ← List.append_assoc s.queue]
  rfl

@[simp] theorem State.appended_zero (s : State) : s.appended 0 = s := by
  simp [State.appended, State.fetchBytes, State.fetchOps]

/-- Prefetching does not change what lies ahead. -/
theorem State.appended_peek (s : State) (k i : Nat) : (s.appended k).peek i = s.peek i := by
  simp only [State.peek, State.appended_queue, State.appended_mem, State.appended_fetchAddr, List.length_append,
    State.fetchBytes_length]
  rcases lt_or_ge i s.queue.length with inQueue | beyond
  · rw [List.getElem?_append_left inQueue, List.getElem?_eq_getElem inQueue]
  · rw [List.getElem?_append_right beyond, List.getElem?_eq_none beyond]
    rcases lt_or_ge (i - s.queue.length) k with fetched | ahead
    · simp [State.fetchBytes, fetched]
    · rw [List.getElem?_eq_none (by simpa [State.fetchBytes_length] using ahead)]
      have : k + (i - (s.queue.length + k)) = i - s.queue.length := by omega
      simp only [this]

/-- The state after `n` bytes of the instruction stream are consumed on an accepting bus (`consume_ok`). -/
def State.consumed (s : State) (n : Nat) : State :=
  { s.appended (n - s.queue.length) with
    queue := (s.appended (n - s.queue.length)).queue.drop n
    ip := s.ip + BitVec.ofNat 16 n }

theorem consume_ok {s : State} (h : s.accepts) (n : Nat) : consume n s = .ok () (s.consumed n) := by
  rw [consume, prefetch_ok h]
  rfl

theorem State.accepts.consumed {s : State} (h : s.accepts) (n : Nat) : (s.consumed n).accepts :=
  State.accepts_of_eq h rfl

/-- Enough bytes are in the queue by the time they are consumed. -/
theorem State.le_length_appended (s : State) (n : Nat) :
    n ≤ (s.appended (n - s.queue.length)).queue.length := by
  simp only [State.appended_queue, List.length_append, State.fetchBytes_length]
  omega

theorem State.consumed_queue_length (s : State) (n : Nat) : (s.consumed n).queue.length = s.queue.length - n := by
  simp only [State.consumed, State.appended_queue, List.length_drop, List.length_append, State.fetchBytes_length]
  omega

/-- Consuming `m + n` bytes is consuming `m` and then `n`: what is fetched and dropped is the same. -/
theorem State.consumed_add (s : State) (m n : Nat) : s.consumed (m + n) = (s.consumed m).consumed n := by
  have fetched : m + n - s.queue.length = (m - s.queue.length) + (n - (s.consumed m).queue.length) := by
    rw [s.consumed_queue_length]
    omega
  have bytes : (s.appended (m + n - s.queue.length)).queue.drop (m + n)
      = ((s.consumed m).appended (n - (s.consumed m).queue.length)).queue.drop n := by
    rw [fetched, s.appended_add, State.appended_queue, ← List.drop_drop,
      List.drop_append_of_le_length (s.le_length_appended m)]
    rfl
  rw [State.consumed, bytes, fetched, s.appended_add, BitVec.ofNat_add, ← BitVec.add_assoc]
  rfl

theorem consume_add {s : State} (h : s.accepts) (m n : Nat) :
    consume (m + n) s = (consume m s).bind fun _ t => consume n t := by
  rw [consume_ok h, consume_ok h, s.consumed_add]
  exact (consume_ok (h.consumed m) n).symm

/-- Dropping queued bytes moves what lies ahead nearer by as many. -/
theorem State.peek_drop_queue (s : State) {m : Nat} (hm : m ≤ s.queue.length) (v : Word) (j : Nat) :
    ({ s with queue := s.queue.drop m, ip := v } : State).peek j = s.peek (m + j) := by
  have : j - (s.queue.length - m) = m + j - s.queue.length := by omega
  simp only [State.peek, List.getElem?_drop, List.length_drop, this]
  rfl

/-- What the decoder sees after `m` bytes are consumed is what it saw `m` bytes further on. -/
theorem State.consumed_peek (s : State) (m j : Nat) : (s.consumed m).peek j = s.peek (m + j) :=
  calc (s.consumed m).peek j
    _ = (s.appended (m - s.queue.length)).peek (m + j) := State.peek_drop_queue _ (s.le_length_appended m) _ j
    _ = s.peek (m + j) := s.appended_peek _ _

/-- `fetch_next_byte()` with a byte in the queue takes its head. -/
theorem State.consumed_one_of_cons {s : State} {b : Byte} {q : List Byte} (hq : s.queue = b :: q) :
    s.consumed 1 = { s with queue := q, ip := s.ip + 1 } := by
  simp [State.consumed, hq]

/-- `fetch_next_byte()` with an empty queue reads memory at CS:fetch_ip. -/
theorem State.consumed_one_of_nil {s : State} (hq : s.queue = []) :
    s.consumed 1 = { s with
      fetchIp := s.fetchIp + 1
      ip := s.ip + 1
      busLog := .fetch (phys s.sreg.cs s.fetchIp) (s.byteAt s.sreg.cs s.fetchIp) :: s.busLog } := by
  simp [State.consumed, State.appended, State.fetchBytes, State.fetchOps, State.fetchAddr_zero, State.byteAt, hq]

theorem State.peek_zero_of_cons {s : State} {b : Byte} {q : List Byte} (hq : s.queue = b :: q) : s.peek 0 = b := by
  simp [State.peek, hq]

theorem State.peek_zero_of_nil {s : State} (hq : s.queue = []) : s.peek 0 = s.byteAt s.sreg.cs s.fetchIp := by
  simp [State.peek, hq, State.fetchAddr_zero, State.byteAt]

/-! ## The obligations -/

/-- Settles O5: an address of 20 bits is the sum's remainder. -/
theorem physicalAddress : Obligations.PhysicalAddress := phys_toNat

/-- Settles O6: each byte transaction is quiet but for its own entry in the log, so the second one, at the next offset, finds
the memory the first one left. -/
theorem wordAccess : Obligations.WordAccess :=
  fun ph seg off _ h => ⟨load16_ok ph seg off h, fun v => store16_ok ph seg off v h⟩

/-- Settles O9: one consumption by the head of the queue or by a fetch, the rest by `consume_add` and `State.consumed_peek`. -/
theorem fetchNextByte : Obligations.FetchNextByte := by
  intro s h
  refine ⟨fun b q hq => ⟨State.peek_zero_of_cons hq, ?_⟩, fun hq => ⟨State.peek_zero_of_nil hq, ?_⟩,
    fun n => ⟨?_, fun t ht j => ?_⟩⟩
  · rw [consume_ok h, State.consumed_one_of_cons hq]
  · rw [consume_ok h, State.consumed_one_of_nil hq]
  · rw [Nat.add_comm, consume_add h]
  · obtain rfl : s.consumed 1 = t := by simpa [consume_ok h] using ht
    rw [s.consumed_peek, Nat.add_comm]

end Sys2Proof.Machine
end

section
/-! SUPPORT. What an operation answers on an accepting bus, up to the fields of the BIU: word accesses, pushes and pops, the
returns, the interrupt entry (60_exceptions.md R212) and a boundary that takes one request. Then the proofs of the
obligations on returns and software interrupts. -/

namespace Sys2Proof.Machine

/-! ## Answers on an accepting bus -/

/-- `r` does not stop, and answers a value and a state that satisfy `Q`. -/
abbrev Res.Answers {α : Type} (r : Res α) (Q : α → State → Prop) : Prop := r.Post Q fun _ => False

theorem Res.Answers.exists_ok {α : Type} {r : Res α} {Q : α → State → Prop} (h : r.Answers Q) :
    ∃ a t, r = .ok a t ∧ Q a t := by
  cases r with
  | ok a t => exact ⟨a, t, rfl, h⟩
  | stop t => exact h.elim

section
variable {α : Type} {s : State} {Q : α → State → Prop}

/-- A word read supplies the word, and what follows starts from the same state but for the BIU's fields. -/
theorem load16_bind {f : Word → State → Res α} (ph : Phase) (seg off : Word) (h : s.accepts)
    (hf : ∀ b, (f (s.wordAt seg off) (s.withBiu b)).Answers Q) : ((load16 ph seg off s).bind f).Answers Q := by
  obtain ⟨t, e, ht, -⟩ := load16_ok ph seg off h
  rw [e, ht]
  exact hf t

theorem push16_bind {f : Unit → State → Res α} (ph : Phase) (v : Word) (h : s.accepts)
    (hf : ∀ b, (f () ((s.pushed v).withBiu b)).Answers Q) : ((push16 ph v s).bind f).Answers Q := by
  obtain ⟨t, e, ht, -⟩ := store16_ok (s := s.setReg16 .sp (s.gpr.sp - 2)) ph s.sreg.ss (s.gpr.sp - 2) v
    (State.accepts_of_eq h rfl)
  have hpush : push16 ph v s = .ok () t := e
  rw [hpush, ht]
  exact hf t

/-! ## The stack (40_data_transfer.md R79) -/

theorem State.stackWord_zero (s : State) : s.stackWord 0 = s.wordAt s.sreg.ss s.gpr.sp := by simp [State.stackWord]

theorem State.popped_sp (s : State) (j : Nat) : (s.popped j).gpr.sp = s.gpr.sp + BitVec.ofNat 16 (2 * j) := rfl

/-- After `j` pops the top of the stack is the word that was `j` below it. -/
theorem State.stackWord_popped (s : State) (j k : Nat) : (s.popped j).stackWord k = s.stackWord (j + k) := by
  rw [State.stackWord, State.popped_sp, BitVec.add_assoc, ← BitVec.ofNat_add, ← Nat.mul_add]
  rfl

theorem State.popped_popped (s : State) (j k : Nat) : (s.popped j).popped k = s.popped (j + k) := by
  rw [State.popped, State.popped_sp, BitVec.add_assoc, ← BitVec.ofNat_add, ← Nat.mul_add]
  rfl

theorem pop16_bind {f : Word → State → Res α} (h : s.accepts)
    (hf : ∀ b, (f (s.stackWord 0) ((s.popped 1).withBiu b)).Answers Q) : ((pop16 s).bind f).Answers Q := by
  obtain ⟨t, e, ht, -⟩ := load16_ok .exec s.sreg.ss s.gpr.sp h
  rw [pop16, e, ht, ← s.stackWord_zero]
  exact hf t

/-- `IP <- pop16()` and a second pop, with which a far return and IRET begin: it finds the word below the first. -/
theorem popIp_pop16_bind {f : Word → State → Res α} (h : s.accepts)
    (hf : ∀ b, (f (s.stackWord 1) (((s.popped 2).setIp (s.stackWord 0)).withBiu b)).Answers Q) :
    ((pop16 s).bind fun v t => (pop16 (t.setIp v)).bind f).Answers Q := by
  refine pop16_bind h fun b => pop16_bind (State.accepts_of_eq h rfl) fun b' => ?_
  rw [← s.stackWord_popped 1 0, ← s.popped_popped 1 1] at hf
  exact hf b'

end

/-! ## Returns (44_control_transfer.md R162 to R165, 45_interrupt_instructions.md R169) -/

/-- An operation that leads to `e` and then flushes is a jump to `e` (20_memory.md R59). -/
theorem Jumps.of_answers {i : Instr} {s e : State} {r : Res Unit} (hexec : exec i s = r.out)
    (h : r.Answers fun _ t => ∃ b, t = (e.withBiu b).flush) : Jumps i s fun _ => e := by
  obtain ⟨_, _, hr, b, rfl⟩ := h.exists_ok
  exact ⟨_, by rw [hexec, hr]; rfl, rfl, rfl, rfl⟩

/-- The state after a near return that drops `n` bytes, but for the queue (R162, R163). -/
def State.returnedNear (s : State) (n : Word) : State :=
  { s with ip := s.stackWord 0, gpr := { s.gpr with sp := s.gpr.sp + 2 + n } }

/-- The state after IP and CS are popped and `n` bytes dropped, but for the queue (R164, R165, R169). -/
def State.returnedFar (s : State) (n : Word) : State :=
  { s with
    ip := s.stackWord 0
    sreg := { s.sreg with cs := s.stackWord 1 }
    gpr := { s.gpr with sp := s.gpr.sp + 4 + n } }

theorem retNear_answers {s : State} (n : Word) (h : s.accepts) :
    (retNear n s).Answers fun _ t => ∃ b, t = ((s.returnedNear n).withBiu b).flush :=
  pop16_bind h fun b => ⟨b, rfl⟩

theorem retFar_answers {s : State} (n : Word) (h : s.accepts) :
    (retFar n s).Answers fun _ t => ∃ b, t = ((s.returnedFar n).withBiu b).flush :=
  popIp_pop16_bind h fun b => ⟨b, rfl⟩

/-- The flags are the third word, and the third pop leaves SP 6 up. -/
theorem intReturn_answers {s : State} (h : s.accepts) :
    (intReturn s).Answers fun _ t =>
      ∃ b, t = (((s.returnedFar 2).setFlags (loadFlags (s.stackWord 2))).withBiu b).flush := by
  rw [← s.stackWord_popped 2 0]
  exact popIp_pop16_bind h fun b => pop16_bind (State.accepts_of_eq h rfl) fun b' => ⟨b', rfl⟩

/-- Under UNDOC_POLICY = emulate an undocumented encoding is its body (47_undocumented.md R183). -/
theorem undocumented_of_emulate {s : State} (m : String) (body : State → Res Unit) (h : s.params.undoc = .emulate) :
    undocumented m body s = body s := by
  rw [undocumented, h]

theorem Jumps.of_emulated {i : Instr} {s e : State} {m : String} {body : State → Res Unit}
    (hem : s.params.undoc = .emulate) (hexec : exec i s = (undocumented m body s).out)
    (h : (body s).Answers fun _ t => ∃ b, t = (e.withBiu b).flush) : Jumps i s fun _ => e :=
  .of_answers (by rw [hexec, undocumented_of_emulate m body hem]) h

/-! ## Interrupt entry -/

/-- The state after the interrupt entry for `v`, but for the queue (60_exceptions.md R212). -/
def State.entered (s : State) (v : Byte) : State :=
  let p := ((s.pushed (flagsImage s.flags)).pushed s.sreg.cs).pushed s.returnAddress
  let off : Word := BitVec.ofNat 16 (4 * v.toNat)
  { p with
    ip := p.wordAt 0 off
    sreg := { p.sreg with cs := p.wordAt 0 (off + 2) }
    flags := { s.flags with ifl := false, tf := false }
    rep := none
    halted := false }

/-- Three pushes and two reads of the vector table, each on the accepting bus. -/
theorem intEntry_answers {s : State} (v : Byte) (h : s.accepts) :
    (intEntry v s).Answers fun _ t => ∃ b, t = ((s.entered v).withBiu b).flush := by
  refine push16_bind .entry _ h fun b1 => ?_
  refine push16_bind .entry _ (State.accepts_of_eq h rfl) fun b2 => ?_
  refine push16_bind .entry _ (State.accepts_of_eq h rfl) fun b3 => ?_
  refine load16_bind .entry _ _ (State.accepts_of_eq h rfl) fun b4 => ?_
  exact load16_bind .entry _ _ (State.accepts_of_eq h rfl) fun b5 => ⟨b5, rfl⟩

/-! ## The boundary (60_exceptions.md R210) -/

theorem takeRequest_internal {s : State} {v : Byte} (h : s.internalReq = some v) :
    takeRequest s = some (v, { s with internalReq := none }) := by
  simp [takeRequest, h]

/-- With IF clear, pending maskable requests are not taken. -/
theorem takeRequest_eq_none {s : State} (hinternal : s.internalReq = none) (hnmi : s.nmiQ = [])
    (hif : s.flags.ifl = false) (hlatch : s.ssLatch = false) : takeRequest s = none := by
  simp [takeRequest, hinternal, hnmi, hif, hlatch]

theorem serviceLoop_of_none {s : State} (n : Nat) (h : takeRequest s = none) : serviceLoop n s = .ok () s := by
  cases n <;> simp [serviceLoop, h]

/-- A chain that takes one request and then finds none it may take. -/
theorem serviceChain_of_one {s t u : State} {v : Byte} (htake : takeRequest s = some (v, t))
    (hentry : intEntry v t = .ok () u) (hrest : takeRequest u = none) :
    serviceChain s = .ok () { u with inhibit := false } := by
  obtain ⟨hpending, -⟩ := takeRequest_some htake
  simp [serviceChain, hpending, serviceLoop, htake, hentry, Res.bind, serviceLoop_of_none _ hrest, Res.andThen]

/-- The boundary of a unit without a failure that began with TF = 0. -/
theorem boundary_false {t : State} (hfault : t.fault = none) :
    boundary false t = (serviceChain { t with pfx := Prefixes.none }).state := by
  simp [boundary, hfault]

/-- The boundary after a raised request, with no non-maskable request, latch or inhibit, is the entry for it: the entry clears
IF, so nothing is taken after it. -/
theorem boundary_raise {s : State} (n : Byte) (hfault : s.fault = none) (hnmi : s.nmiQ = []) (hbus : s.accepts)
    (hlatch : s.ssLatch = false) (hinhibit : s.inhibit = false) :
    intEntry n { s with internalReq := none, pfx := Prefixes.none } = .ok () (boundary false (s.raise n)) := by
  obtain ⟨_, u, hentry, b, hu⟩ := (intEntry_answers (s := { s with internalReq := none, pfx := Prefixes.none }) n
    (State.accepts_of_eq hbus rfl)).exists_ok
  have hrest : takeRequest u = none := by
    subst hu
    exact takeRequest_eq_none rfl hnmi rfl hlatch
  have hclear : { u with inhibit := false } = u := by
    subst hu
    rw [← hinhibit]
    rfl
  rw [boundary_false (t := s.raise n) hfault, serviceChain_of_one (takeRequest_internal rfl) hentry hrest, hclear]
  exact hentry

theorem exec_into (s : State) : exec .into s = .next (if s.flags.ofl then s.raise 4 else s) := rfl

/-! ## The obligations -/

/-- Settles O55: a return is one, two or three pops, then SP arithmetic and the flush; the aliases are the same operations. -/
theorem returns : Obligations.Returns := by
  intro s h
  refine ⟨.of_answers rfl (retNear_answers 0 h), fun n => .of_answers rfl (retNear_answers n h),
    .of_answers rfl (retFar_answers 0 h), fun n => .of_answers rfl (retFar_answers n h),
    .of_answers rfl (intReturn_answers h), fun hem => ?_⟩
  exact ⟨.of_emulated hem rfl (retNear_answers 0 h), fun n => .of_emulated hem rfl (retNear_answers n h),
    .of_emulated hem rfl (retFar_answers 0 h), fun n => .of_emulated hem rfl (retFar_answers n h)⟩

/-- Settles O56: the first clauses are the meanings, and `boundary_raise` is the last. -/
theorem softwareInterrupts : Obligations.SoftwareInterrupts := by
  intro s
  refine ⟨fun n => rfl, rfl, fun hof => ?_, fun hof => ?_, fun hfault hnmi hbus hlatch hinhibit n => ?_⟩
  · rw [exec_into, if_pos hof]
    rfl
  · rw [exec_into, if_neg (by simp [hof])]
  · exact ⟨s.raise n, _, rfl, boundary_raise n hfault hnmi hbus hlatch hinhibit, rfl⟩

end Sys2Proof.Machine
end

section
/-! SUPPORT. Row F of the opcode table; then the proof of the obligation on the flag instructions (46_processor_control.md R170
to R176). -/

namespace Sys2Proof.Machine

/-- The opcode bytes F0h to FFh are decoded by their low digit in row F (30_encoding.md R73). -/
theorem decode_rowF (rep : Bool) (c : BitVec 4) (r : List Byte) :
    decode rep ((0xF#4 ++ c) :: r) = rowF rep c.toNat r := by
  have hhigh : (0xF#4 ++ c).toNat / 16 = 0xF := by decide +revert
  have hlow : (0xF#4 ++ c).toNat % 16 = c.toNat := by decide +revert
  simp only [decode, takeByte, decodeOp, hhigh, hlow]

/-- Settles O57: each byte is its entry of row F, and each meaning is the update of its one flag. -/
theorem flagInstructions : Obligations.FlagInstructions := by
  intro s r
  refine ⟨⟨?clc, rfl⟩, ⟨?stc, rfl⟩, ⟨?cmc, rfl⟩, ⟨?cld, rfl⟩, ⟨?std, rfl⟩, ⟨?cli, rfl⟩, ⟨?sti, rfl⟩⟩
  case clc => exact decode_rowF false 0x8 r
  case stc => exact decode_rowF false 0x9 r
  case cmc => exact decode_rowF false 0x5 r
  case cld => exact decode_rowF false 0xC r
  case std => exact decode_rowF false 0xD r
  case cli => exact decode_rowF false 0xA r
  case sti => exact decode_rowF false 0xB r

end Sys2Proof.Machine
end

section
/-! SUPPORT. The decoder undoes the encoder (30_encoding.md sections 1 to 5): register numbers and ModRM fields, the
`r/m` operand, and the operand layouts, each for any opcode byte that is decoded so. Then the proof of the obligation,
one case per layout. -/

namespace Sys2Proof

/-! ## Register numbers and ModRM fields (30_encoding.md R65, R66) -/

@[simp] theorem Reg8.ofCode_code (r : Reg8) : Reg8.ofCode r.code = r := by cases r <;> rfl
@[simp] theorem Reg16.ofCode_code (r : Reg16) : Reg16.ofCode r.code = r := by cases r <;> rfl
@[simp] theorem Base.ofCode_code (b : Base) : Base.ofCode b.code = b := by cases b <;> rfl

theorem modrm_mod (md : BitVec 2) (reg rm : BitVec 3) : (modrm md reg rm).extractLsb' 6 2 = md := by
  decide +revert

theorem modrm_reg (md : BitVec 2) (reg rm : BitVec 3) : (modrm md reg rm).extractLsb' 3 3 = reg := by
  decide +revert

theorem modrm_rm (md : BitVec 2) (reg rm : BitVec 3) : (modrm md reg rm).extractLsb' 0 3 = rm := by
  decide +revert

theorem bitVec3_cases (x : BitVec 3) :
    x = 0 ∨ x = 1 ∨ x = 2 ∨ x = 3 ∨ x = 4 ∨ x = 5 ∨ x = 6 ∨ x = 7 := by decide +revert

/-- An immediate or displacement word is read back (R69). -/
theorem takeWord_wordBytes (v : Word) (r : List Byte) (k : Word → List Byte → Decoded) :
    takeWord (wordBytes v ++ r) k = k v r :=
  congrArg (k · r) (Machine.wordOf_bytes v)

/-! ## The `r/m` operand -/

/-- The operand before its width is known. -/
def Rm8.raw : Rm8 → RawRm
  | .reg r => .reg r.code
  | .mem m => .mem m

def Rm16.raw : Rm16 → RawRm
  | .reg r => .reg r.code
  | .mem m => .mem m

@[simp] theorem Rm8.raw_b (e : Rm8) : RawRm.b e.raw = e := by cases e <;> simp [Rm8.raw, RawRm.b]
@[simp] theorem Rm16.raw_w (e : Rm16) : RawRm.w e.raw = e := by cases e <;> simp [Rm16.raw, RawRm.w]

/-- `mod = 11` is a register (R65). -/
theorem takeRm_reg (reg rm : BitVec 3) (r : List Byte) (k : BitVec 3 → RawRm → List Byte → Decoded) :
    takeRm (modrm 3 reg rm :: r) k = k reg (.reg rm) r := by
  simp [takeRm, takeByte, modrm_mod, modrm_reg, modrm_rm]

/-- A well-formed memory operand is read back: BP alone, whose place under `mod = 00` is the direct address, has no such
form. -/
theorem takeRm_encMem {m : Mem} (hm : m.wf = true) (reg : BitVec 3) (r : List Byte)
    (k : BitVec 3 → RawRm → List Byte → Decoded) : takeRm (encMem reg m ++ r) k = k reg (.mem m) r := by
  have hbp : Base.ofCode 6#3 = .bp := rfl
  cases m with
  | base b =>
    cases b with
    | bp => cases hm
    | bxSi | bxDi | bpSi | bpDi | si | di | bx => simp [takeRm, takeByte, encMem, modrm_mod, modrm_reg, modrm_rm]
  | direct d => simp [takeRm, takeByte, encMem, modrm_mod, modrm_reg, modrm_rm, hbp, takeWord_wordBytes]
  | disp8 b d => simp [takeRm, takeByte, encMem, modrm_mod, modrm_reg, modrm_rm]
  | disp16 b d => simp [takeRm, takeByte, encMem, modrm_mod, modrm_reg, modrm_rm, takeWord_wordBytes]

theorem takeRm_encRm8 {e : Rm8} (he : e.wf = true) (reg : BitVec 3) (r : List Byte)
    (k : BitVec 3 → RawRm → List Byte → Decoded) : takeRm (encRm8 reg e ++ r) k = k reg e.raw r := by
  cases e with
  | reg x => exact takeRm_reg reg x.code r k
  | mem m => exact takeRm_encMem he reg r k

theorem takeRm_encRm16 {e : Rm16} (he : e.wf = true) (reg : BitVec 3) (r : List Byte)
    (k : BitVec 3 → RawRm → List Byte → Decoded) : takeRm (encRm16 reg e ++ r) k = k reg e.raw r := by
  cases e with
  | reg x => exact takeRm_reg reg x.code r k
  | mem m => exact takeRm_encMem he reg r k

/-! ## Operand layouts

In each lemma `hop` says how the opcode byte `op` is decoded; `mk` gives the instruction from its fields. -/

section
variable {rep : Bool} {op : Byte} {rest : List Byte}

theorem decode_word {mk : Word → Instr} {v : Word} (hop : ∀ bs, decode rep (op :: bs) = withIw mk bs) :
    decode rep (op :: wordBytes v ++ rest) = .ok (mk v, rest) :=
  (hop _).trans (takeWord_wordBytes v rest _)

theorem decode_farPointer {mk : Word → Word → Instr} {off seg : Word}
    (hop : ∀ bs, decode rep (op :: bs) = withAp mk bs) :
    decode rep (op :: wordBytes off ++ wordBytes seg ++ rest) = .ok (mk off seg, rest) := by
  rw [List.append_assoc, List.cons_append, hop, withAp, takeWord_wordBytes, takeWord_wordBytes]

theorem decode_rm8 {mk : BitVec 3 → Rm8 → Instr} {reg : BitVec 3} {e : Rm8} (he : e.wf = true)
    (hop : ∀ bs, decode rep (op :: bs) = takeRm bs fun g x r => .ok (mk g x.b, r)) :
    decode rep (op :: encRm8 reg e ++ rest) = .ok (mk reg e, rest) := by
  rw [List.cons_append, hop, takeRm_encRm8 he, Rm8.raw_b]

theorem decode_rm16 {mk : BitVec 3 → Rm16 → Instr} {reg : BitVec 3} {e : Rm16} (he : e.wf = true)
    (hop : ∀ bs, decode rep (op :: bs) = takeRm bs fun g x r => .ok (mk g x.w, r)) :
    decode rep (op :: encRm16 reg e ++ rest) = .ok (mk reg e, rest) := by
  rw [List.cons_append, hop, takeRm_encRm16 he, Rm16.raw_w]

theorem decode_rm8_byte {mk : BitVec 3 → Rm8 → Byte → Instr} {reg : BitVec 3} {e : Rm8} {i : Byte} (he : e.wf = true)
    (hop : ∀ bs, decode rep (op :: bs) = takeRm bs fun g x r => takeByte r fun i r => .ok (mk g x.b i, r)) :
    decode rep (op :: encRm8 reg e ++ [i] ++ rest) = .ok (mk reg e i, rest) := by
  rw [List.append_assoc, List.cons_append, hop, takeRm_encRm8 he, Rm8.raw_b]
  rfl

theorem decode_rm16_byte {mk : BitVec 3 → Rm16 → Byte → Instr} {reg : BitVec 3} {e : Rm16} {i : Byte}
    (he : e.wf = true)
    (hop : ∀ bs, decode rep (op :: bs) = takeRm bs fun g x r => takeByte r fun i r => .ok (mk g x.w i, r)) :
    decode rep (op :: encRm16 reg e ++ [i] ++ rest) = .ok (mk reg e i, rest) := by
  rw [List.append_assoc, List.cons_append, hop, takeRm_encRm16 he, Rm16.raw_w]
  rfl

theorem decode_rm16_word {mk : BitVec 3 → Rm16 → Word → Instr} {reg : BitVec 3} {e : Rm16} {i : Word}
    (he : e.wf = true)
    (hop : ∀ bs, decode rep (op :: bs) = takeRm bs fun g x r => takeWord r fun i r => .ok (mk g x.w i, r)) :
    decode rep (op :: encRm16 reg e ++ wordBytes i ++ rest) = .ok (mk reg e i, rest) := by
  rw [List.append_assoc, List.cons_append, hop, takeRm_encRm16 he, Rm16.raw_w, takeWord_wordBytes]

theorem decode_ebGb {mk : Rm8 → Reg8 → Instr} {e : Rm8} {g : Reg8} (he : e.wf = true)
    (hop : ∀ bs, decode rep (op :: bs) = withEbGb mk bs) :
    decode rep (op :: encRm8 g.code e ++ rest) = .ok (mk e g, rest) := by
  rw [decode_rm8 (mk := fun c e => mk e (Reg8.ofCode c)) he hop, Reg8.ofCode_code]

theorem decode_evGv {mk : Rm16 → Reg16 → Instr} {e : Rm16} {g : Reg16} (he : e.wf = true)
    (hop : ∀ bs, decode rep (op :: bs) = withEvGv mk bs) :
    decode rep (op :: encRm16 g.code e ++ rest) = .ok (mk e g, rest) := by
  rw [decode_rm16 (mk := fun c e => mk e (Reg16.ofCode c)) he hop, Reg16.ofCode_code]

/-- LEA, LES, LDS with a memory operand. -/
theorem decode_memOnly {mk : Reg16 → Mem → Instr} {mkReg : Reg16 → Reg16 → Instr} {g : Reg16} {m : Mem}
    (hm : m.wf = true) (hop : ∀ bs, decode rep (op :: bs) = withMemOnly mk mkReg bs) :
    decode rep (op :: encMem g.code m ++ rest) = .ok (mk g m, rest) := by
  rw [List.cons_append, hop, withMemOnly, takeRm_encMem hm, Reg16.ofCode_code]

/-- Their register form (47_undocumented.md R198). -/
theorem decode_memOnly_reg {mk : Reg16 → Mem → Instr} {mkReg : Reg16 → Reg16 → Instr} {g r : Reg16}
    (hop : ∀ bs, decode rep (op :: bs) = withMemOnly mk mkReg bs) :
    decode rep (op :: modrm 3 g.code r.code :: rest) = .ok (mkReg g r, rest) := by
  rw [hop, withMemOnly, takeRm_reg]
  simp

end

/-! ## FFh, F6h and F7h (R72, R74) -/

section
variable {rep : Bool} {rest : List Byte}

theorem decode_FF (bs : List Byte) : decode rep (0xFF :: bs) = takeRm bs fun g x r => .ok (grp5 g x, r) := rfl

theorem decode_FF_rm {reg : BitVec 3} {e : Rm16} (he : e.wf = true) :
    decode rep (0xFF :: encRm16 reg e ++ rest) = .ok (grp5 reg e.raw, rest) := by
  rw [List.cons_append, decode_FF, takeRm_encRm16 he]

theorem decode_FF_mem {reg : BitVec 3} {m : Mem} (hm : m.wf = true) :
    decode rep (0xFF :: encMem reg m ++ rest) = .ok (grp5 reg (.mem m), rest) := by
  rw [List.cons_append, decode_FF, takeRm_encMem hm]

theorem decode_FF_reg {reg : BitVec 3} {r : Reg16} :
    decode rep (0xFF :: modrm 3 reg r.code :: rest) = .ok (grp5 reg (.reg r.code), rest) := by
  rw [decode_FF, takeRm_reg]

theorem decode_F6 (bs : List Byte) : decode rep (0xF6 :: bs) = decodeF6 rep bs := rfl

theorem decode_F7 (bs : List Byte) : decode rep (0xF7 :: bs) = decodeF7 rep bs := rfl

/-- /2../7 have no immediate. -/
theorem decode_encGrp3 {reg : BitVec 3} {f : RmForm} (hf : f.wf = true) (hreg : 2 ≤ reg.toNat) :
    decode rep (encGrp3 reg f ++ rest) = .ok (grp3 rep reg f, rest) := by
  cases f with
  | b e =>
    rw [encGrp3, List.cons_append, decode_F6, decodeF6, takeRm_encRm8 hf, Rm8.raw_b]
    split
    · omega
    · omega
    · rfl
  | w e =>
    rw [encGrp3, List.cons_append, decode_F7, decodeF7, takeRm_encRm16 hf, Rm16.raw_w]
    split
    · omega
    · omega
    · rfl

/-- The immediate of /1, TEST under its undocumented number (47_undocumented.md R193). -/
theorem decode_testAlias {f : RmImm} (hf : f.wf = true) :
    decode rep (encTestAlias f ++ rest) = .ok (.testAlias f, rest) := by
  cases f with
  | b e i =>
    rw [encTestAlias, List.append_assoc, List.cons_append, decode_F6, decodeF6, takeRm_encRm8 hf, Rm8.raw_b]
    rfl
  | w e i =>
    rw [encTestAlias, List.append_assoc, List.cons_append, decode_F7, decodeF7, takeRm_encRm16 hf, Rm16.raw_w]
    exact takeWord_wordBytes i rest _

theorem decode_test {f : TestForm} (hf : f.wf = true) : decode rep (encTest f ++ rest) = .ok (.test f, rest) := by
  cases f with
  | ebGb e g => exact decode_ebGb (mk := fun e g => .test (.ebGb e g)) hf fun _ => rfl
  | evGv e g => exact decode_evGv (mk := fun e g => .test (.evGv e g)) hf fun _ => rfl
  | alIb i => rfl
  | axIv i => exact decode_word (mk := fun i => .test (.axIv i)) fun _ => rfl
  | ebIb e i =>
    rw [encTest, List.append_assoc, List.cons_append, decode_F6, decodeF6, takeRm_encRm8 hf, Rm8.raw_b]
    rfl
  | evIv e i =>
    rw [encTest, List.append_assoc, List.cons_append, decode_F7, decodeF7, takeRm_encRm16 hf, Rm16.raw_w]
    exact takeWord_wordBytes i rest _

theorem decode_mov {f : MovForm} (hf : f.wf = true) : decode rep (encMov f ++ rest) = .ok (.mov f, rest) := by
  cases f with
  | ebGb e g => exact decode_ebGb (mk := fun e g => .mov (.ebGb e g)) hf fun _ => rfl
  | evGv e g => exact decode_evGv (mk := fun e g => .mov (.evGv e g)) hf fun _ => rfl
  | gbEb g e => exact decode_ebGb (mk := fun e g => .mov (.gbEb g e)) hf fun _ => rfl
  | gvEv g e => exact decode_evGv (mk := fun e g => .mov (.gvEv g e)) hf fun _ => rfl
  | alOb off => exact decode_word (mk := fun off => .mov (.alOb off)) fun _ => rfl
  | axOv off => exact decode_word (mk := fun off => .mov (.axOv off)) fun _ => rfl
  | obAl off => exact decode_word (mk := fun off => .mov (.obAl off)) fun _ => rfl
  | ovAx off => exact decode_word (mk := fun off => .mov (.ovAx off)) fun _ => rfl

theorem decode_xchg {f : XchgForm} (hf : f.wf = true) : decode rep (encXchg f ++ rest) = .ok (.xchg f, rest) := by
  cases f with
  | b e g => exact decode_ebGb (mk := fun e g => .xchg (.b e g)) hf fun _ => rfl
  | w e g => exact decode_evGv (mk := fun e g => .xchg (.w e g)) hf fun _ => rfl

theorem decode_encShift {reg : BitVec 3} {f : ShiftForm} (hf : f.wf = true) :
    decode rep (encShift reg f ++ rest) = .ok (grp2 reg f, rest) := by
  cases f with
  | eb1 e => exact decode_rm8 (mk := fun g e => grp2 g (.eb1 e)) hf fun _ => rfl
  | ev1 e => exact decode_rm16 (mk := fun g e => grp2 g (.ev1 e)) hf fun _ => rfl
  | ebCl e => exact decode_rm8 (mk := fun g e => grp2 g (.ebCl e)) hf fun _ => rfl
  | evCl e => exact decode_rm16 (mk := fun g e => grp2 g (.evCl e)) hf fun _ => rfl

theorem decode_setmo {f : RmForm} (hf : f.wf = true) : decode rep (encSetmo f ++ rest) = .ok (.setmo f, rest) := by
  cases f with
  | b e => exact decode_encShift (f := .eb1 e) hf
  | w e => exact decode_encShift (f := .ev1 e) hf

theorem decode_setmoc {f : RmForm} (hf : f.wf = true) : decode rep (encSetmoc f ++ rest) = .ok (.setmoc f, rest) := by
  cases f with
  | b e => exact decode_encShift (f := .ebCl e) hf
  | w e => exact decode_encShift (f := .evCl e) hf

/-- D8h..DFh: the opcode byte carries three bits of the coprocessor's operation (46_processor_control.md R179). -/
theorem decode_esc_op (op : BitVec 3) (bs : List Byte) :
    decode rep (((0x1B : BitVec 5) ++ op) :: bs) = takeRm bs fun g x r => .ok (.esc op g x.w, r) := by
  rcases bitVec3_cases op with rfl | rfl | rfl | rfl | rfl | rfl | rfl | rfl <;> rfl

end

/-! ## The eight ALU operations (41_arithmetic.md R104) -/

namespace Machine

/-- The number `k` of an operation (R104); `AluOp.decode_encAlu` ties it and the instruction to the decoder. -/
def AluOp.code : AluOp → BitVec 3
  | .add => 0 | .or => 1 | .adc => 2 | .sbb => 3 | .and => 4 | .sub => 5 | .xor => 6 | .cmp => 7

/-- The instruction of an operation. -/
def AluOp.instr : AluOp → AluForm → Instr
  | .add => .add | .or => .or | .adc => .adc | .sbb => .sbb | .and => .and | .sub => .sub | .xor => .xor | .cmp => .cmp

section
variable {rep : Bool} {rest : List Byte}

/-- The rows `b+0 .. b+5`. -/
theorem AluOp.decode_column (k : AluOp) (col : BitVec 3) (hcol : col < 6) (bs : List Byte) :
    decode rep (((0 : BitVec 2) ++ k.code ++ col) :: bs) = aluCol k.instr col.toNat bs := by
  rcases bitVec3_cases col with rfl | rfl | rfl | rfl | rfl | rfl | rfl | rfl
  case inr.inr.inr.inr.inr.inr.inl | inr.inr.inr.inr.inr.inr.inr => exact absurd hcol (by decide)
  all_goals cases k <;> rfl

theorem AluOp.grp1_code (k : AluOp) : grp1 k.code = k.instr := by cases k <;> rfl

/-- The forms that AND, OR and XOR lack are the ones of 82h and 83h. -/
theorem AluOp.grp82_code {k : AluOp} (hk : k.drawsAf = false) (e : Rm8) (i : Byte) :
    grp82 k.code e i = k.instr (.ebIb82 e i) := by
  cases k with
  | and | or | xor => cases hk
  | add | adc | sbb | sub | cmp => rfl

theorem AluOp.grp83_code {k : AluOp} (hk : k.drawsAf = false) (e : Rm16) (i : Byte) :
    grp83 k.code e i = k.instr (.evIs e i) := by
  cases k with
  | and | or | xor => cases hk
  | add | adc | sbb | sub | cmp => rfl

theorem AluOp.decode_encAlu (k : AluOp) {f : AluForm} (hf : f.wf = true) (hk : k.drawsAf = false ∨ f.logic = true) :
    decode rep (encAlu k.code f ++ rest) = .ok (k.instr f, rest) := by
  cases f with
  | ebGb e g => exact decode_ebGb (mk := fun e g => k.instr (.ebGb e g)) hf (k.decode_column 0 (by decide))
  | evGv e g => exact decode_evGv (mk := fun e g => k.instr (.evGv e g)) hf (k.decode_column 1 (by decide))
  | gbEb g e => exact decode_ebGb (mk := fun e g => k.instr (.gbEb g e)) hf (k.decode_column 2 (by decide))
  | gvEv g e => exact decode_evGv (mk := fun e g => k.instr (.gvEv g e)) hf (k.decode_column 3 (by decide))
  | alIb i => exact k.decode_column 4 (by decide) (i :: rest)
  | axIv i => exact decode_word (mk := fun i => k.instr (.axIv i)) (k.decode_column 5 (by decide))
  | ebIb e i =>
    rw [← k.grp1_code]
    exact decode_rm8_byte (mk := fun g e i => grp1 g (.ebIb e i)) hf fun _ => rfl
  | evIv e i =>
    rw [← k.grp1_code]
    exact decode_rm16_word (mk := fun g e i => grp1 g (.evIv e i)) hf fun _ => rfl
  | ebIb82 e i =>
    rw [← grp82_code (by simpa [AluForm.logic] using hk)]
    exact decode_rm8_byte (mk := grp82) hf fun _ => rfl
  | evIs e i =>
    rw [← grp83_code (by simpa [AluForm.logic] using hk)]
    exact decode_rm16_byte (mk := grp83) hf fun _ => rfl

end

/-- Settles O1: one case per layout of the encoding (30_encoding.md R62, R65 to R74). -/
theorem decodeOfEncode : Obligations.DecodeOfEncode := by
  intro rep i rest hwf hrep
  cases i with
  | add f => exact AluOp.decode_encAlu .add hwf (.inl rfl)
  | adc f => exact AluOp.decode_encAlu .adc hwf (.inl rfl)
  | sub f => exact AluOp.decode_encAlu .sub hwf (.inl rfl)
  | sbb f => exact AluOp.decode_encAlu .sbb hwf (.inl rfl)
  | cmp f => exact AluOp.decode_encAlu .cmp hwf (.inl rfl)
  | and f => exact AluOp.decode_encAlu .and (Bool.and_eq_true_iff.1 hwf).1 (.inr (Bool.and_eq_true_iff.1 hwf).2)
  | or f => exact AluOp.decode_encAlu .or (Bool.and_eq_true_iff.1 hwf).1 (.inr (Bool.and_eq_true_iff.1 hwf).2)
  | xor f => exact AluOp.decode_encAlu .xor (Bool.and_eq_true_iff.1 hwf).1 (.inr (Bool.and_eq_true_iff.1 hwf).2)
  | orAlias82 e i | andAlias82 e i | xorAlias82 e i => exact decode_rm8_byte (mk := grp82) hwf fun _ => rfl
  | orAlias83 e i | andAlias83 e i | xorAlias83 e i => exact decode_rm16_byte (mk := grp83) hwf fun _ => rfl
  | mov f => exact decode_mov hwf
  | xchg f => exact decode_xchg hwf
  | test f => exact decode_test hwf
  | testAlias f => exact decode_testAlias hwf
  | setmo f => exact decode_setmo hwf
  | setmoc f => exact decode_setmoc hwf
  | rol f | ror f | rcl f | rcr f | shl f | shr f | sar f => exact decode_encShift hwf
  | not f | neg f => exact decode_encGrp3 hwf (by decide)
  | mul f | imul f | div f | idiv f =>
    obtain rfl : rep = false := hrep
    exact decode_encGrp3 hwf (by decide)
  | repMulDiv o f =>
    obtain rfl : rep = true := hrep
    cases o <;> exact decode_encGrp3 hwf (by decide)
  | movEbIb e i | movEbIbAlias1 e i | movEbIbAlias2 e i | movEbIbAlias3 e i | movEbIbAlias4 e i | movEbIbAlias5 e i
  | movEbIbAlias6 e i | movEbIbAlias7 e i => exact decode_rm8_byte (mk := grpC6) hwf fun _ => rfl
  | movEvIv e i | movEvIvAlias1 e i | movEvIvAlias2 e i | movEvIvAlias3 e i | movEvIvAlias4 e i | movEvIvAlias5 e i
  | movEvIvAlias6 e i | movEvIvAlias7 e i => exact decode_rm16_word (mk := grpC7) hwf fun _ => rfl
  | movEwSw e r | movEwSwAlias e r =>
    refine (decode_rm16 (mk := grp8C) hwf fun _ => rfl).trans ?_
    cases r <;> rfl
  | movSwEwAlias r e =>
    refine (decode_rm16 (mk := grp8E) hwf fun _ => rfl).trans ?_
    cases r <;> rfl
  | movEsEw e | movCsEw e | movSsEw e | movDsEw e => exact decode_rm16 (mk := grp8E) hwf fun _ => rfl
  | popEv e | popEvAlias1 e | popEvAlias2 e | popEvAlias3 e | popEvAlias4 e | popEvAlias5 e | popEvAlias6 e
  | popEvAlias7 e => exact decode_rm16 (mk := grp8F) hwf fun _ => rfl
  | incEb e | decEb e | fe2 e | fe3 e | fe4 e | fe5 e | fe6 e | fe7 e =>
    exact decode_rm8 (mk := grp4) hwf fun _ => rfl
  | incEv e | decEv e | callEv e | jmpEv e | pushEv e | pushEvAlias e =>
    rw [encode, decode_FF_rm hwf]
    simp [grp5]
  | callFarMp m | jmpFarMp m => exact decode_FF_mem hwf
  | callFarReg r | jmpFarReg r =>
    refine decode_FF_reg.trans ?_
    simp [grp5]
  | esc op reg e => exact decode_rm16 (mk := .esc op) hwf (decode_esc_op op)
  | lea g m => exact decode_memOnly (mkReg := .leaReg) hwf fun _ => rfl
  | les g m => exact decode_memOnly (mkReg := .lesReg) hwf fun _ => rfl
  | lds g m => exact decode_memOnly (mkReg := .ldsReg) hwf fun _ => rfl
  | leaReg g r => exact decode_memOnly_reg (mk := .lea) fun _ => rfl
  | lesReg g r => exact decode_memOnly_reg (mk := .les) fun _ => rfl
  | ldsReg g r => exact decode_memOnly_reg (mk := .lds) fun _ => rfl
  | inp f | outp f => cases f <;> rfl
  | jmpFar off seg => exact decode_farPointer (mk := .jmpFar) fun _ => rfl
  | callFar off seg => exact decode_farPointer (mk := .callFar) fun _ => rfl
  | movAxIv | movCxIv | movDxIv | movBxIv | movSpIv | movBpIv | movSiIv | movDiIv | jmp | call | retIw | retfIw
  | retIwAlias | retfIwAlias => exact decode_word fun _ => rfl
  -- An opcode byte alone, or with one byte after it.
  | _ => rfl

end Machine

end Sys2Proof
end

section
/-! SUPPORT. What UNDOC_POLICY = refuse and the forms of class C do (47_undocumented.md R183, R197 to R199); then the
proof of the obligation on refused encodings. -/

namespace Sys2Proof.Machine

/-- Under UNDOC_POLICY = refuse an undocumented encoding is refused, whatever its body (60_exceptions.md R203). -/
theorem Refuses.of_undocumented {i : Instr} {s : State} {m : String} {body : State → Res Unit}
    (hrefuse : s.params.undoc = .refuse) (hexec : exec i s = (undocumented m body s).out) : Refuses i s :=
  ⟨m, by rw [hexec, undocumented, hrefuse]; rfl⟩

theorem refuses_of_isUndocumented {i : Instr} {s : State} (hi : isUndocumented i = true)
    (hrefuse : s.params.undoc = .refuse) : Refuses i s := by
  cases i with
  | lockF1 | joAlias | jnoAlias | jbAlias | jaeAlias | jeAlias | jneAlias | jbeAlias | jaAlias | jsAlias | jnsAlias
  | jpAlias | jnpAlias | jlAlias | jgeAlias | jleAlias | jgAlias | retIwAlias | retAlias | retfIwAlias | retfAlias
  | orAlias82 | andAlias82 | xorAlias82 | orAlias83 | andAlias83 | xorAlias83 | movEwSwAlias | movSwEwAlias | movCsEw
  | popCs | popEvAlias1 | popEvAlias2 | popEvAlias3 | popEvAlias4 | popEvAlias5 | popEvAlias6 | popEvAlias7
  | movEbIbAlias1 | movEbIbAlias2 | movEbIbAlias3 | movEbIbAlias4 | movEbIbAlias5 | movEbIbAlias6 | movEbIbAlias7
  | movEvIvAlias1 | movEvIvAlias2 | movEvIvAlias3 | movEvIvAlias4 | movEvIvAlias5 | movEvIvAlias6 | movEvIvAlias7
  | pushEvAlias | salc => exact .of_undocumented hrefuse rfl
  | testAlias f | setmo f | setmoc f => cases f <;> exact .of_undocumented hrefuse rfl
  | _ => cases hi

theorem refuses_of_isClassC {i : Instr} {s : State} (hi : isClassC i = true) : Refuses i s := by
  cases i with
  | fe2 | fe3 | fe4 | fe5 | fe6 | fe7 | leaReg | lesReg | ldsReg | callFarReg | jmpFarReg => exact ⟨_, rfl⟩
  | repMulDiv o f => cases f <;> exact ⟨_, rfl⟩
  | _ => cases hi

/-- Settles O60: the policy refuses classes A and B before their body runs; class C has no body. -/
theorem refusedEncodings : Obligations.RefusedEncodings :=
  fun _ _ => ⟨refuses_of_isUndocumented, refuses_of_isClassC⟩

end Sys2Proof.Machine
end

section
/-! SUPPORT. What an operand access and the shared bodies of the data transfer instructions answer on an accepting bus,
up to the fields of the BIU; an answer as a completed instruction (`Runs`), documented or under UNDOC_POLICY = emulate.
Then the proofs of the obligations on MOV, PUSH and POP (40_data_transfer.md). -/

namespace Sys2Proof.Machine

/-! ## Completion -/

/-- An operation that answers `e`, which may take undefined values from the state it leads to. -/
theorem Runs.of_res {i : Instr} {s : State} {e : State → State} {r : Res Unit} (hexec : exec i s = r.out)
    (h : r.Answers fun _ t => t = (e t).withBiu t) : Runs i s e := by
  obtain ⟨_, t, hr, ht⟩ := h.exists_ok
  exact ⟨t, by rw [hexec, hr]; rfl, ht⟩

/-- An operation that leads to `e` but for the fields of the BIU. -/
theorem Runs.of_answers {i : Instr} {s e : State} {r : Res Unit} (hexec : exec i s = r.out)
    (h : r.Answers fun _ t => ∃ b, t = e.withBiu b) : Runs i s fun _ => e :=
  .of_res hexec (h.mono (by rintro _ _ ⟨b, rfl⟩; rfl) fun _ => id)

theorem exec_of_emulate {i : Instr} {s : State} {m : String} {body : State → Res Unit}
    (hem : s.params.undoc = .emulate) (hexec : exec i s = (undocumented m body s).out) : exec i s = (body s).out := by
  rw [hexec, undocumented_of_emulate m body hem]

theorem Runs.of_emulated {i : Instr} {s e : State} {m : String} {body : State → Res Unit}
    (hem : s.params.undoc = .emulate) (hexec : exec i s = (undocumented m body s).out)
    (h : (body s).Answers fun _ t => ∃ b, t = e.withBiu b) : Runs i s fun _ => e :=
  .of_answers (exec_of_emulate hem hexec) h

theorem Res.bind_ok {α : Type} (r : Res α) : r.bind .ok = r := by cases r <;> rfl

/-! ## Operands (30_encoding.md R68) -/

@[simp] theorem Place.val_withBiu {w : Nat} (p : Place w) (s b : State) : p.val (s.withBiu b) = p.val s := by
  cases p <;> rfl

@[simp] theorem Src.val_withBiu {w : Nat} (x : Src w) (s b : State) : x.val (s.withBiu b) = x.val s := by
  cases x with
  | place p => exact p.val_withBiu s b
  | imm v => rfl

theorem Place.put_withBiu {w : Nat} (p : Place w) (v : BitVec w) (s b : State) :
    p.put v (s.withBiu b) = (p.put v s).withBiu b := by
  cases p <;> rfl

@[simp] theorem Place.put_flags {w : Nat} (p : Place w) (v : BitVec w) (s : State) : (p.put v s).flags = s.flags := by
  cases p <;> rfl

section
variable {α : Type} {w : Nat} {s : State} {Q : α → State → Prop}

theorem Place.read_bind {f : BitVec w → State → Res α} (p : Place w) (h : s.accepts)
    (hf : ∀ b, (f (p.val s) (s.withBiu b)).Answers Q) : ((p.read s).bind f).Answers Q := by
  cases p with
  | r8 r | r16 r => exact hf s
  | m8 seg off =>
    obtain ⟨t, e, ht⟩ := memRead_ok .exec (phys seg off) h
    rw [Place.read, load8, e, ht]
    exact hf t
  | m16 seg off => exact load16_bind .exec seg off h hf

theorem Src.read_bind {f : BitVec w → State → Res α} (x : Src w) (h : s.accepts)
    (hf : ∀ b, (f (x.val s) (s.withBiu b)).Answers Q) : ((x.read s).bind f).Answers Q := by
  cases x with
  | place p => exact p.read_bind h hf
  | imm v => exact hf s

theorem Place.write_bind {f : Unit → State → Res α} (p : Place w) (v : BitVec w) (h : s.accepts)
    (hf : ∀ b, (f () ((p.put v s).withBiu b)).Answers Q) : ((p.write v s).bind f).Answers Q := by
  cases p with
  | r8 r | r16 r => exact hf s
  | m8 seg off =>
    obtain ⟨t, e, ht⟩ := memWrite_ok .exec (phys seg off) v h
    rw [Place.write, store8, e, ht]
    exact hf t
  | m16 seg off =>
    obtain ⟨t, e, ht, -⟩ := store16_ok .exec seg off v h
    rw [Place.write, e, ht]
    exact hf t

/-- The write that ends an instruction, made after other accesses of the bus. -/
theorem Place.write_answers (p : Place w) (v : BitVec w) (b : State) (h : s.accepts) :
    (p.write v (s.withBiu b)).Answers fun _ t => ∃ b', t = (p.put v s).withBiu b' := by
  rw [← (p.write v _).bind_ok]
  exact p.write_bind v (State.accepts_of_eq h rfl) fun b' => ⟨b', by rw [p.put_withBiu, State.withBiu_withBiu]⟩

/-! ## Moves and the stack -/

theorem moveTo_answers (dst : Place w) (src : Src w) (h : s.accepts) :
    (moveTo dst src s).Answers fun _ t => ∃ b, t = (dst.put (src.val s) s).withBiu b :=
  src.read_bind h fun b => dst.write_answers _ b h

/-- The state after a load of a segment register, which inhibits interrupts when SEG_LOAD_INHIBIT (10_state.md R34). -/
def State.segTook (s : State) (r : SReg) (v : Word) : State :=
  { s.setSeg r v with inhibit := s.inhibit || s.params.segLoadInhibit }

theorem movToSeg_answers (r : SReg) (e : Rm16) (h : s.accepts) :
    (movToSeg r e s).Answers fun _ t => ∃ b, t = (s.segTook r ((place16 e s).val s)).withBiu b :=
  (place16 e s).read_bind h fun b => ⟨b, rfl⟩

theorem movToCs_answers (e : Rm16) (h : s.accepts) :
    (movToCs e s).Answers fun _ t => ∃ b, t = ((s.segTook .cs ((place16 e s).val s)).withBiu b).flush :=
  (place16 e s).read_bind h fun b => ⟨b, rfl⟩

theorem push16_answers (ph : Phase) (v : Word) (b : State) (h : s.accepts) :
    (push16 ph v (s.withBiu b)).Answers fun _ t => ∃ b', t = (s.pushed v).withBiu b' := by
  rw [← (push16 ph v _).bind_ok]
  exact push16_bind ph v (State.accepts_of_eq h rfl) fun b' => ⟨b', rfl⟩

/-- What PUSH of a register stores: SP itself as decremented (40_data_transfer.md R86). -/
def State.pushValue (s : State) (r : Reg16) : Word := if r = .sp then s.gpr.sp - 2 else s.reg16 r

theorem pushReg_answers (r : Reg16) (h : s.accepts) :
    (pushReg r s).Answers fun _ t => ∃ b, t = (s.pushed (s.pushValue r)).withBiu b := by
  cases r <;> exact push16_answers .exec _ s h

theorem pushRm_mem_answers (m : Mem) (h : s.accepts) :
    (pushRm (.mem m) s).Answers fun _ t => ∃ b, t = (s.pushed (s.wordAt (memSeg m s) (effAddr m s))).withBiu b :=
  load16_bind .exec _ _ h fun b => push16_answers .exec _ b h

theorem popReg_answers (r : Reg16) (h : s.accepts) :
    (popReg r s).Answers fun _ t => ∃ b, t = ((s.popped 1).setReg16 r (s.stackWord 0)).withBiu b :=
  pop16_bind h fun b => ⟨b, rfl⟩

theorem popSeg_answers (r : SReg) (h : s.accepts) :
    (popSeg r s).Answers fun _ t => ∃ b, t = ((s.popped 1).segTook r (s.stackWord 0)).withBiu b :=
  pop16_bind h fun b => ⟨b, rfl⟩

theorem popf_answers (h : s.accepts) :
    ((pop16 s).andThen fun v t => t.setFlags (loadFlags v)).Answers
      fun _ t => ∃ b, t = ((s.popped 1).setFlags (loadFlags (s.stackWord 0))).withBiu b :=
  pop16_bind h fun b => ⟨b, rfl⟩

theorem popCs_answers (h : s.accepts) :
    ((popSeg .cs s).andThen fun _ t => t.flush).Answers
      fun _ t => ∃ b, t = (((s.popped 1).segTook .cs (s.stackWord 0)).withBiu b).flush :=
  (popSeg_answers .cs h).bind fun _ _ ⟨b, ht⟩ => ⟨b, by rw [ht]⟩

/-- The destination is located before SP changes (40_data_transfer.md R91). -/
theorem popRm_answers (e : Rm16) (h : s.accepts) :
    (popRm e s).Answers fun _ t => ∃ b, t = ((place16 e s).put (s.stackWord 0) (s.popped 1)).withBiu b :=
  pop16_bind h fun b => (place16 e s).write_answers _ b (State.accepts_of_eq h rfl)

end

/-! ## Rows with a documented /0 and aliases /1../7 (47_undocumented.md R191, R192) -/

section
variable {s : State} {reg : BitVec 3} (hreg : reg = 0 ∨ s.params.undoc = .emulate)
include hreg

theorem exec_grpC6 (e : Rm8) (i : Byte) : exec (grpC6 reg e i) s = (moveTo (place8 e s) (.imm i) s).out := by
  rcases bitVec3_cases reg with rfl | rfl | rfl | rfl | rfl | rfl | rfl | rfl
  case inl => rfl
  all_goals exact exec_of_emulate (hreg.resolve_left (by decide)) rfl

theorem exec_grpC7 (e : Rm16) (i : Word) : exec (grpC7 reg e i) s = (moveTo (place16 e s) (.imm i) s).out := by
  rcases bitVec3_cases reg with rfl | rfl | rfl | rfl | rfl | rfl | rfl | rfl
  case inl => rfl
  all_goals exact exec_of_emulate (hreg.resolve_left (by decide)) rfl

theorem exec_grp8F (e : Rm16) : exec (grp8F reg e) s = (popRm e s).out := by
  rcases bitVec3_cases reg with rfl | rfl | rfl | rfl | rfl | rfl | rfl | rfl
  case inl => rfl
  all_goals exact exec_of_emulate (hreg.resolve_left (by decide)) rfl

end

theorem exec_movByteRow (r : Reg8) (i : Byte) (s : State) :
    exec (movByteRow r i) s = (moveTo (.r8 r) (.imm i) s).out := by cases r <;> rfl

theorem exec_movWordRow (r : Reg16) (i : Word) (s : State) :
    exec (movWordRow r i) s = (moveTo (.r16 r) (.imm i) s).out := by cases r <;> rfl

theorem exec_pushRow (r : Reg16) (s : State) : exec (pushRow r) s = (pushReg r s).out := by cases r <;> rfl

theorem exec_pushSegRow (r : SReg) (s : State) : exec (pushSegRow r) s = (push16 .exec (s.seg r) s).out := by
  cases r <;> rfl

theorem exec_popRow (r : Reg16) (s : State) : exec (popRow r) s = (popReg r s).out := by cases r <;> rfl

theorem exec_popSegRow {r : SReg} (hr : r ≠ .cs) (s : State) : exec (popSegRow r) s = (popSeg r s).out := by
  cases r with
  | cs => exact absurd rfl hr
  | es | ss | ds => rfl

/-- 8Eh /4, /6, /7 under UNDOC_POLICY = emulate (47_undocumented.md R188). -/
theorem exec_movSwEwAlias {r : SReg} {s : State} (hr : r ≠ .cs) (hem : s.params.undoc = .emulate) (e : Rm16) :
    exec (.movSwEwAlias r e) s = (movToSeg r e s).out := by
  cases r with
  | cs => exact absurd rfl hr
  | es | ss | ds => exact exec_of_emulate hem rfl

/-! ## The obligations -/

/-- Settles O31: each form is `moveTo` from its source to its destination. -/
theorem movForms : Obligations.MovForms := by
  intro s h
  refine ⟨fun e g => .of_answers rfl (moveTo_answers _ _ h), fun e g => .of_answers rfl (moveTo_answers _ _ h),
    fun g e => .of_answers rfl (moveTo_answers _ _ h), fun g e => .of_answers rfl (moveTo_answers _ _ h),
    fun off => .of_answers rfl (moveTo_answers _ _ h), fun off => .of_answers rfl (moveTo_answers _ _ h),
    fun off => .of_answers rfl (moveTo_answers _ _ h), fun off => .of_answers rfl (moveTo_answers _ _ h),
    fun r i => .of_answers (exec_movByteRow r i s) (moveTo_answers _ _ h),
    fun r i => .of_answers (exec_movWordRow r i s) (moveTo_answers _ _ h),
    fun reg hreg => ⟨fun e i => ?rowC6, fun e i => ?rowC7⟩⟩
  case rowC6 => exact .of_answers (exec_grpC6 hreg e i) (moveTo_answers _ _ h)
  case rowC7 => exact .of_answers (exec_grpC7 hreg e i) (moveTo_answers _ _ h)

/-- Settles O32: the store of a segment register is a write, a load is `movToSeg`, and of CS `movToCs`. -/
theorem movSegment : Obligations.MovSegment := by
  intro s h
  refine ⟨fun e r => .of_answers rfl ((place16 e s).write_answers _ s h),
    fun e => .of_answers rfl (movToSeg_answers .es e h), fun e => .of_answers rfl (movToSeg_answers .ss e h),
    fun e => .of_answers rfl (movToSeg_answers .ds e h),
    fun hem => ⟨fun e r => ?store, fun r e hr => ?load, fun e => ?loadCs5, fun e => ?loadCs1⟩⟩
  case store => exact .of_emulated hem rfl ((place16 e s).write_answers _ s h)
  case load => exact .of_answers (exec_movSwEwAlias hr hem e) (movToSeg_answers r e h)
  case loadCs5 => exact .of_emulated hem rfl (movToCs_answers e h)
  case loadCs1 => exact .of_emulated hem rfl (movToCs_answers e h)

/-- Settles O33: each form is `push16` of its value, which is read first. -/
theorem pushForms : Obligations.PushForms := by
  intro s h
  refine ⟨fun r => .of_answers (exec_pushRow r s) (pushReg_answers r h),
    fun r => .of_answers (exec_pushSegRow r s) (push16_answers .exec _ s h),
    fun r => .of_answers rfl (pushReg_answers r h), fun m => .of_answers rfl (pushRm_mem_answers m h),
    .of_answers rfl (push16_answers .exec _ s h), fun hem => ⟨fun r => ?reg, fun m => ?mem⟩⟩
  case reg => exact .of_emulated hem rfl (pushReg_answers r h)
  case mem => exact .of_emulated hem rfl (pushRm_mem_answers m h)

/-- Settles O34: each form is `pop16`, then the destination takes the word. -/
theorem popForms : Obligations.PopForms := by
  intro s h
  exact ⟨fun r => .of_answers (exec_popRow r s) (popReg_answers r h),
    fun r hr => .of_answers (exec_popSegRow hr s) (popSeg_answers r h), .of_answers rfl (popf_answers h),
    fun hem => .of_emulated hem rfl (popCs_answers h),
    fun reg hreg e => .of_answers (exec_grp8F hreg e) (popRm_answers e h)⟩

end Sys2Proof.Machine
end

section
/-! SUPPORT. SF, ZF and PF of a result as numbers; what the ALU operations, TEST and SETMO answer on an accepting bus.
Then the proofs of the obligations on the logic instructions (42_logic_shift.md R125 to R128) and on SALC, SETMO and SETMOC
(47_undocumented.md R195, R196). -/

namespace Sys2Proof.Machine

/-! ## The flags of a result (00_scope.md R15) -/

theorem zfOf_eq {w : Nat} (r : BitVec w) : zfOf r = decide (r.toNat = 0) := by
  simp [zfOf, beq_eq_decide, ← BitVec.toNat_inj]

theorem sfOf_eq {w : Nat} (r : BitVec w) : sfOf r = decide (r.toInt < 0) := by
  rw [sfOf, ← BitVec.msb_eq_getLsbD_last, BitVec.msb_eq_toInt]

/-- Both count the one bits of the low byte. -/
theorem pfOf_eq {w : Nat} (r : BitVec w) : pfOf r = parityEven r.toNat := by
  have hbit (i : Nat) (hi : i < 8) : (r.extractLsb' 0 8).getLsbD i = r.toNat.testBit i := by
    rw [BitVec.getLsbD_extractLsb', Nat.zero_add, decide_eq_true hi, Bool.true_and, BitVec.getLsbD]
  have hcount (b : Bool) : (if b = true then 1 else 0) = b.toNat := by cases b <;> rfl
  simp only [pfOf, parityEven, ones, hbit, Nat.reduceLT, List.range_succ, List.range_zero, List.nil_append,
    List.cons_append, List.countP_cons, List.countP_nil, hcount]
  congr 2
  omega

theorem setSzp_eq_withSzp {w : Nat} (r : BitVec w) (f : Flags) : setSzp r f = withSzp r f := by
  rw [setSzp, withSzp, zfOf_eq, sfOf_eq, pfOf_eq]

theorem logicFlags_eq_bitwiseFlags {w : Nat} (r : BitVec w) (u f : Flags) :
    logicFlags r u.af f = bitwiseFlags r u f := by
  rw [logicFlags, bitwiseFlags, setSzp_eq_withSzp]

/-! ## ALU operations on an accepting bus -/

/-- The flags written at the end of an instruction, with an undefined AF drawn. -/
theorem State.aluFlagged_withBiu {w : Nat} {s : State} {f : Flags} (hf : s.flags = f) (b : State) (k : AluOp)
    (a c : BitVec w) :
    ∃ af b', (s.withBiu b).aluFlagged k a c = (s.setFlags (aluFlags k a c af f)).withBiu b' := by
  subst hf
  exact ⟨(s.withBiu b).freeBit 0, (s.withBiu b).aluFlagged k a c, rfl⟩

section
variable {w : Nat} {s : State}

theorem aluOn_answers {k : AluOp} (hk : k ≠ .cmp) (dst : Place w) (src : Src w) (h : s.accepts) :
    (aluOn k dst src s).Answers fun _ t => ∃ af b,
      t = ((dst.put (aluResult k (dst.val s) (src.val s) s.flags.cf) s).setFlags
        (aluFlags k (dst.val s) (src.val s) af s.flags)).withBiu b := by
  have hwrite (r : BitVec w) (t : State) : aluWrite k dst r t = dst.write r t := by
    cases k with
    | cmp => exact absurd rfl hk
    | add | or | adc | sbb | and | sub | xor => rfl
  refine dst.read_bind h fun b => src.read_bind (State.accepts_of_eq h rfl) fun b' => ?_
  rw [hwrite]
  refine dst.write_bind _ (State.accepts_of_eq h rfl) fun b'' => ?_
  rw [src.val_withBiu, dst.put_withBiu, dst.put_withBiu, State.withBiu_withBiu, State.withBiu_withBiu]
  exact State.aluFlagged_withBiu (dst.put_flags _ s) _ k _ _

theorem testOn_answers (a c : Src w) (h : s.accepts) :
    (testOn a c s).Answers fun _ t => ∃ af b,
      t = (s.setFlags (logicFlags (a.val s &&& c.val s) af s.flags)).withBiu b := by
  refine a.read_bind h fun b => c.read_bind (State.accepts_of_eq h rfl) fun b' => ?_
  rw [c.val_withBiu]
  exact State.aluFlagged_withBiu rfl _ .and _ _

theorem setOnes_answers (p : Place w) (h : s.accepts) :
    (setOnes p s).Answers fun _ t => ∃ b, t = ((p.put (BitVec.ofNat w (2 ^ w - 1)) s).setFlags
      { s.flags with cf := false, ofl := false, af := false, sf := true, zf := false, pf := true }).withBiu b := by
  have hones : BitVec.allOnes w = BitVec.ofNat w (2 ^ w - 1) := by
    rw [← BitVec.toNat_allOnes, BitVec.ofNat_toNat, BitVec.setWidth_eq]
  rw [← p.put_flags (BitVec.ofNat w (2 ^ w - 1)) s, ← hones]
  exact p.write_bind _ h fun b => ⟨b, rfl⟩

end

/-! ## Logic instructions, whose AF is undefined -/

section
variable {w : Nat} {i : Instr} {s : State}

/-- The result is written and its flags are those of a logic result; AF, from the draw, is unconstrained. -/
theorem Runs.of_logic {k : AluOp} {dst : Place w} {src : Src w} {r : BitVec w}
    (hexec : exec i s = (aluOn k dst src s).out) (h : s.accepts) (hk : k ≠ .cmp)
    (hr : aluResult k (dst.val s) (src.val s) s.flags.cf = r)
    (hf : ∀ af, aluFlags k (dst.val s) (src.val s) af s.flags = logicFlags r af s.flags) :
    Runs i s fun t => (dst.put r s).setFlags (bitwiseFlags r t.flags s.flags) := by
  refine .of_res hexec ((aluOn_answers hk dst src h).mono ?_ fun _ => id)
  rintro _ _ ⟨af, b, rfl⟩
  rw [hr, hf, ← logicFlags_eq_bitwiseFlags]
  rfl

/-- AND, OR and XOR of the same two operands. -/
theorem runs_and_or_xor {iand ior ixor : Instr} {dst : Place w} {src : Src w} (h : s.accepts)
    (hand : exec iand s = (aluOn .and dst src s).out) (hor : exec ior s = (aluOn .or dst src s).out)
    (hxor : exec ixor s = (aluOn .xor dst src s).out) :
    Runs iand s (fun t => (dst.put (dst.val s &&& src.val s) s).setFlags
        (bitwiseFlags (dst.val s &&& src.val s) t.flags s.flags))
    ∧ Runs ior s (fun t => (dst.put (dst.val s ||| src.val s) s).setFlags
        (bitwiseFlags (dst.val s ||| src.val s) t.flags s.flags))
    ∧ Runs ixor s (fun t => (dst.put (dst.val s ^^^ src.val s) s).setFlags
        (bitwiseFlags (dst.val s ^^^ src.val s) t.flags s.flags)) :=
  ⟨.of_logic hand h (by decide) rfl fun _ => rfl, .of_logic hor h (by decide) rfl fun _ => rfl,
    .of_logic hxor h (by decide) rfl fun _ => rfl⟩

theorem Runs.of_test {a c : Src w} (hexec : exec i s = (testOn a c s).out) (h : s.accepts) :
    Runs i s fun t => s.setFlags (bitwiseFlags (a.val s &&& c.val s) t.flags s.flags) := by
  refine .of_res hexec ((testOn_answers a c h).mono ?_ fun _ => id)
  rintro _ _ ⟨af, b, rfl⟩
  rw [← logicFlags_eq_bitwiseFlags]
  rfl

end

/-- The ten forms differ in the width, the destination and the source alone (41_arithmetic.md R104). -/
theorem overAlu_of_aluOn {f : AluForm} {s : State} {P : (w : Nat) → Place w → Src w → Prop}
    (h : ∀ (w : Nat) (dst : Place w) (src : Src w), (∀ k, alu k f s = aluOn k dst src s) → P w dst src) :
    overAlu f s P := by
  cases f <;> exact h _ _ _ fun _ => rfl

theorem overTest_of_testOn {f : TestForm} {s : State} {P : (w : Nat) → BitVec w → BitVec w → Prop}
    (h : ∀ (w : Nat) (a c : Src w), exec (.test f) s = (testOn a c s).out → P w (a.val s) (c.val s)) :
    overTest f s P := by
  cases f with
  | ebGb e g => exact h 8 (.place (place8 e s)) (.place (.r8 g)) rfl
  | evGv e g => exact h 16 (.place (place16 e s)) (.place (.r16 g)) rfl
  | alIb i => exact h 8 (.place (.r8 .al)) (.imm i) rfl
  | axIv i => exact h 16 (.place (.r16 .ax)) (.imm i) rfl
  | ebIb e i => exact h 8 (.place (place8 e s)) (.imm i) rfl
  | evIv e i => exact h 16 (.place (place16 e s)) (.imm i) rfl

theorem overRm_of_setOnes {f : RmForm} {s : State} {P : (w : Nat) → Place w → Prop} (hem : s.params.undoc = .emulate)
    (h : ∀ (w : Nat) (p : Place w), exec (.setmo f) s = (setOnes p s).out →
      exec (.setmoc f) s = (if s.reg8 .cl = 0 then Res.ok () s else setOnes p s).out → P w p) : overRm f s P := by
  cases f <;> exact h _ _ (exec_of_emulate hem rfl) (Eq.trans (exec_of_emulate hem rfl) rfl)

/-! ## The obligations -/

/-- Settles O48: each form is an operation of `aluOn`, or `testOn`, documented or under UNDOC_POLICY = emulate. -/
theorem logicForms : Obligations.LogicForms := by
  intro s h
  refine ⟨fun f => overAlu_of_aluOn fun w dst src hf => ?forms,
    fun f => overTest_of_testOn fun w a c hf => .of_test hf h,
    fun hem => ⟨fun e i => ?testByte, fun e i => ?testWord, fun e i => ?row82, fun e i => ?row83⟩⟩
  case forms =>
    exact runs_and_or_xor h (congrArg Res.out (hf .and)) (congrArg Res.out (hf .or)) (congrArg Res.out (hf .xor))
  case testByte => exact .of_test (a := .place (place8 e s)) (c := .imm i) (exec_of_emulate hem rfl) h
  case testWord => exact .of_test (a := .place (place16 e s)) (c := .imm i) (exec_of_emulate hem rfl) h
  case row82 =>
    exact runs_and_or_xor (dst := place8 e s) (src := .imm i) h (exec_of_emulate hem rfl) (exec_of_emulate hem rfl)
      (exec_of_emulate hem rfl)
  case row83 =>
    exact runs_and_or_xor (dst := place16 e s) (src := .imm (i.signExtend 16)) h (exec_of_emulate hem rfl)
      (exec_of_emulate hem rfl) (exec_of_emulate hem rfl)

/-- Settles O59: SALC is a register write, SETMO and SETMOC are `setOnes` of their place. -/
theorem undocumentedOperations : Obligations.UndocumentedOperations := by
  intro s hem h
  refine ⟨.of_emulated hem rfl ⟨s, rfl⟩, fun f => overRm_of_setOnes hem fun w p hsetmo hsetmoc => ?_⟩
  have hones := setOnes_answers p h
  exact ⟨.of_answers hsetmo hones, fun hcl => .of_answers (by rw [hsetmoc, if_neg hcl]) hones,
    fun hcl => .of_answers (r := .ok () s) (by rw [hsetmoc, if_pos hcl]) ⟨s, rfl⟩⟩

end Sys2Proof.Machine
end

section
/-! SUPPORT. The jump conditions and the target of a conditional jump; then the proofs of the obligations on conditional
jumps (44_control_transfer.md R147, R148) and processor control (46_processor_control.md R177 to R182). -/

namespace Sys2Proof.Machine

/-- The condition the machine evaluates is the table of R147. -/
theorem Cond.holds_iff (c : Cond) (f : Flags) : c.holds f = true ↔ condTaken c f := by
  cases c <;> simp [Cond.holds, condTaken]

/-- `trunc_16(E + sext_16(rel8))` (R148). -/
theorem add_signExtend_eq_ofInt (ip : Word) (rel : Byte) :
    ip + rel.signExtend 16 = BitVec.ofInt 16 (ip.toNat + rel.toInt) := by
  rw [BitVec.ofInt_add, BitVec.ofInt_natCast, BitVec.ofNat_toNat, BitVec.setWidth_eq, BitVec.signExtend]

theorem exec_jccRow (c : Cond) (rel : Byte) (s : State) :
    exec (jccRow c rel) s = .next (s.branch (c.holds s.flags) rel) := by cases c <;> rfl

theorem exec_jccAliasRow (c : Cond) (rel : Byte) {s : State} (hem : s.params.undoc = .emulate) :
    exec (jccAliasRow c rel) s = .next (s.branch (c.holds s.flags) rel) := by
  cases c <;> exact Eq.trans (exec_of_emulate hem rfl) rfl

theorem State.branch_taken {s : State} {taken : Bool} (h : taken = true) (rel : Byte) :
    s.branch taken rel = s.jumpTo (BitVec.ofInt 16 (s.ip.toNat + rel.toInt)) := by
  rw [State.branch, if_pos h, add_signExtend_eq_ofInt]

theorem State.branch_not_taken {s : State} {taken : Bool} (h : ¬ taken = true) (rel : Byte) : s.branch taken rel = s :=
  if_neg h

/-- Settles O51: 70h + cc and 60h + cc are one branch, on the condition of R147. -/
theorem conditionalJumps : Obligations.ConditionalJumps := by
  intro c rel s
  have hrow := exec_jccRow c rel s
  have halias := exec_jccAliasRow c rel (s := s)
  rw [← c.holds_iff]
  constructor <;> intro hc
  · rw [State.branch_taken hc] at hrow halias
    exact ⟨hrow, halias⟩
  · rw [State.branch_not_taken hc] at hrow halias
    exact ⟨hrow, halias⟩

theorem exec_wait (s : State) : exec .wait s = .next (if s.testAsserted then s else s.jumpTo s.pfx.start) := rfl

/-- Settles O58: each meaning is the update of its field; WAIT depends on TEST, and F1h on UNDOC_POLICY. -/
theorem processorControl : Obligations.ProcessorControl := by
  intro s
  refine ⟨rfl, fun htest => ?asserted, fun htest => ?notAsserted, rfl, fun op reg e => rfl, rfl, rfl, rfl, rfl, rfl,
    rfl, rfl, fun hem => Eq.trans (exec_of_emulate hem rfl) rfl⟩
  case asserted => rw [exec_wait, if_pos htest]
  case notAsserted =>
    rw [exec_wait, if_neg (by simp [htest])]
    rfl

end Sys2Proof.Machine
end

section
/-! SUPPORT. The flags image is undone by loading it; a word on the stack after a push; the data transactions of an interrupt
entry. Then the proofs of the obligations on the interrupt entry and the return from it (60_exceptions.md R212, R214). -/

namespace Sys2Proof.Machine

/-! ## The flags image (10_state.md R27) -/

theorem flagBit_getElem (b : Bool) (n : Nat) {i : Nat} (hi : i < 16) : (flagBit b n)[i] = (b && decide (i = n)) := by
  cases b with
  | false => simp [flagBit]
  | true =>
    simp only [flagBit, cond_true, BitVec.getElem_shiftLeft, Bool.true_and]
    grind

/-- Each flag is loaded from the bit of the image that holds it. -/
theorem loadFlags_flagsImage (f : Flags) : loadFlags (flagsImage f) = f := by
  simp [loadFlags, flagsImage, flagBit_getElem]

/-! ## Words on the stack -/

/-- The offsets of one segment have different addresses (20_memory.md R43). -/
theorem phys_inj {seg a b : Word} (h : phys seg a = phys seg b) : a = b := by
  have hnat : (phys seg a).toNat = (phys seg b).toNat := congrArg _ h
  rw [phys_toNat, phys_toNat] at hnat
  exact BitVec.eq_of_toNat_eq (by omega)

theorem State.byteAt_putByte_same {s : State} (seg off : Word) (v : Byte) (h : s.mem.wf = true) :
    (s.putByte seg off v).byteAt seg off = v := Memory.read_write_same v h

theorem State.byteAt_putByte_other (s : State) {seg off off' : Word} (v : Byte) (h : off' ≠ off) :
    (s.putByte seg off v).byteAt seg off' = s.byteAt seg off' :=
  Memory.read_write_other _ v (mt phys_inj h)

theorem State.wordAt_putWord_same {s : State} (seg off v : Word) (h : s.mem.wf = true) :
    (s.putWord seg off v).wordAt seg off = v := by
  have hne : off ≠ off + 1 := by bv_omega
  rw [State.wordAt, State.putWord, byteAt_putByte_same _ _ _ (putByte_mem_wf _ _ _ h), byteAt_putByte_other _ _ hne,
    byteAt_putByte_same _ _ _ h, wordOf_bytes]

theorem State.byteAt_putWord_other (s : State) {seg off off' : Word} (v : Word) (hlow : off' ≠ off)
    (hhigh : off' ≠ off + 1) : (s.putWord seg off v).byteAt seg off' = s.byteAt seg off' := by
  rw [State.putWord, byteAt_putByte_other _ _ hhigh, byteAt_putByte_other _ _ hlow]

theorem State.pushed_mem_wf {s : State} (v : Word) (h : s.mem.wf = true) : (s.pushed v).mem.wf = true :=
  putWord_mem_wf _ _ _ h

theorem State.stackWord_pushed_zero {s : State} (v : Word) (h : s.mem.wf = true) : (s.pushed v).stackWord 0 = v := by
  rw [State.stackWord_zero]
  exact wordAt_putWord_same _ _ _ h

/-- A push moves the words of the stack one down, as long as they do not wrap round onto the word pushed. -/
theorem State.stackWord_pushed_succ (s : State) (v : Word) {k : Nat} (hk : k < 2 ^ 15 - 1) :
    (s.pushed v).stackWord (k + 1) = s.stackWord k := by
  have hoff : s.gpr.sp - 2 + BitVec.ofNat 16 (2 * (k + 1)) = s.gpr.sp + BitVec.ofNat 16 (2 * k) := by bv_omega
  have hbyte {j : Nat} (hj : j < 2 ^ 16 - 2) : (s.pushed v).byteAt s.sreg.ss (s.gpr.sp + BitVec.ofNat 16 j)
      = s.byteAt s.sreg.ss (s.gpr.sp + BitVec.ofNat 16 j) :=
    byteAt_putWord_other _ v (by bv_omega) (by bv_omega)
  have hnext : s.gpr.sp + BitVec.ofNat 16 (2 * k) + 1 = s.gpr.sp + BitVec.ofNat 16 (2 * k + 1) := by bv_omega
  change (s.pushed v).wordAt s.sreg.ss (s.gpr.sp - 2 + BitVec.ofNat 16 (2 * (k + 1))) = _
  rw [hoff, State.stackWord, State.wordAt, State.wordAt, hnext, hbyte (by omega), hbyte (by omega)]

/-! ## The data transactions of an interrupt entry (60_exceptions.md R212) -/

/-- The transactions of a word read, newest first (20_memory.md R47, R48). -/
def State.readOps (s : State) (seg off : Word) : List BusOp :=
  [.read (phys seg (off + 1)) (s.byteAt seg (off + 1)), .read (phys seg off) (s.byteAt seg off)]

/-- The transactions of a word write, newest first (20_memory.md R47, R48). -/
def writeOps (seg off v : Word) : List BusOp :=
  [.write (phys seg (off + 1)) (highByte v), .write (phys seg off) (lowByte v)]

@[simp] theorem State.readOps_withBiu (s b : State) (seg off : Word) :
    (s.withBiu b).readOps seg off = s.readOps seg off := rfl

@[simp] theorem State.readOps_setFlags (s : State) (f : Flags) (seg off : Word) :
    (s.setFlags f).readOps seg off = s.readOps seg off := rfl

@[simp] theorem State.pushed_withBiu (s b : State) (v : Word) : (s.withBiu b).pushed v = (s.pushed v).withBiu b := rfl

@[simp] theorem State.pushed_sreg (s : State) (v : Word) : (s.pushed v).sreg = s.sreg := rfl

@[simp] theorem State.pushed_sp (s : State) (v : Word) : (s.pushed v).gpr.sp = s.gpr.sp - 2 := rfl

/-- The state after the three pushes of an entry. -/
def State.framed (s : State) : State :=
  ((s.pushed (flagsImage s.flags)).pushed s.sreg.cs).pushed s.returnAddress

/-- The transactions of the entry for `v`, newest first. -/
def State.entryOps (s : State) (v : Byte) : List BusOp :=
  let off : Word := BitVec.ofNat 16 (4 * v.toNat)
  s.framed.readOps 0 (off + 2) ++ s.framed.readOps 0 off ++ writeOps s.sreg.ss (s.gpr.sp - 6) s.returnAddress
    ++ writeOps s.sreg.ss (s.gpr.sp - 4) s.sreg.cs ++ writeOps s.sreg.ss (s.gpr.sp - 2) (flagsImage s.flags)

/-- The ten transactions, byte by byte. -/
theorem State.entryOps_eq (s : State) (v : Byte) :
    let off : Word := BitVec.ofNat 16 (4 * v.toNat)
    let stk (k : Nat) : Addr := phys s.sreg.ss (s.gpr.sp - BitVec.ofNat 16 k)
    s.entryOps v =
      [.read (phys 0 (off + 3)) (s.framed.byteAt 0 (off + 3)), .read (phys 0 (off + 2)) (s.framed.byteAt 0 (off + 2)),
        .read (phys 0 (off + 1)) (s.framed.byteAt 0 (off + 1)), .read (phys 0 off) (s.framed.byteAt 0 off),
        .write (stk 5) (highByte s.returnAddress), .write (stk 6) (lowByte s.returnAddress),
        .write (stk 3) (highByte s.sreg.cs), .write (stk 4) (lowByte s.sreg.cs),
        .write (stk 1) (highByte (flagsImage s.flags)), .write (stk 2) (lowByte (flagsImage s.flags))] := by
  have hread (x : Word) : x + 2 + 1 = x + 3 := BitVec.add_assoc x 2 1
  have hret (x : Word) : x - 6 + 1 = x - 5 := by bv_omega
  have hcs (x : Word) : x - 4 + 1 = x - 3 := by bv_omega
  have hflags (x : Word) : x - 2 + 1 = x - 1 := by bv_omega
  simp only [entryOps, readOps, writeOps, hread, hret, hcs, hflags]
  rfl

section
variable {α : Type} {s : State} {f : Word → State → Res α} {Q : α → State → Prop}

/-- As `load16_bind`, with the transactions. -/
theorem load16_bind_dataOps (ph : Phase) (seg off : Word) (h : s.accepts)
    (hf : ∀ b, dataOps b.busLog = s.readOps seg off ++ dataOps s.busLog →
      (f (s.wordAt seg off) (s.withBiu b)).Answers Q) : ((load16 ph seg off s).bind f).Answers Q := by
  obtain ⟨t, e, ht, hlog⟩ := load16_ok ph seg off h
  rw [e, ht]
  exact hf t hlog

/-- As `push16_bind`, with the transactions. -/
theorem push16_bind_dataOps {f : Unit → State → Res α} (ph : Phase) (v : Word) (h : s.accepts)
    (hf : ∀ b, dataOps b.busLog = writeOps s.sreg.ss (s.gpr.sp - 2) v ++ dataOps s.busLog →
      (f () ((s.pushed v).withBiu b)).Answers Q) : ((push16 ph v s).bind f).Answers Q := by
  obtain ⟨t, e, ht, hlog⟩ := store16_ok (s := s.setReg16 .sp (s.gpr.sp - 2)) ph s.sreg.ss (s.gpr.sp - 2) v
    (State.accepts_of_eq h rfl)
  have hpush : push16 ph v s = .ok () t := e
  rw [hpush, ht]
  exact hf t hlog

end

theorem intEntry_dataOps {s : State} (v : Byte) (h : s.accepts) :
    (intEntry v s).Answers fun _ t => dataOps t.busLog = s.entryOps v ++ dataOps s.busLog := by
  refine push16_bind_dataOps .entry _ h fun b1 hflags => ?_
  refine push16_bind_dataOps .entry _ (State.accepts_of_eq h rfl) fun b2 hcs => ?_
  refine push16_bind_dataOps .entry _ (State.accepts_of_eq h rfl) fun b3 hret => ?_
  refine load16_bind_dataOps .entry _ _ (State.accepts_of_eq h rfl) fun b4 hip => ?_
  refine load16_bind_dataOps .entry _ _ (State.accepts_of_eq h rfl) fun b5 hnewCs => ?_
  have hsub2 : s.gpr.sp - 2 - 2 = s.gpr.sp - 4 := BitVec.sub_sub ..
  have hsub4 : s.gpr.sp - 4 - 2 = s.gpr.sp - 6 := BitVec.sub_sub ..
  simp only [State.pushed_withBiu, State.pushed_sreg, State.pushed_sp, State.withBiu_withBiu, State.withBiu_sreg,
    State.withBiu_gpr, State.withBiu_busLog, State.setFlags_busLog, State.readOps_withBiu, State.readOps_setFlags, hsub2,
    hsub4] at hcs hret hip hnewCs
  change dataOps b5.busLog = _
  rw [hnewCs, hip, hret, hcs, hflags]
  simp only [State.entryOps, State.framed, List.append_assoc]

/-! ## The words an interrupt entry leaves on the stack -/

section
variable {s : State} (v : Byte)

/-- Nothing the entry does after its pushes changes the stack. -/
theorem State.stackWord_entered (k : Nat) : (s.entered v).stackWord k = s.framed.stackWord k := rfl

theorem State.stackWord_entered_zero (h : s.mem.wf = true) : (s.entered v).stackWord 0 = s.returnAddress := by
  rw [stackWord_entered, framed, stackWord_pushed_zero _ (pushed_mem_wf _ (pushed_mem_wf _ h))]

theorem State.stackWord_entered_one (h : s.mem.wf = true) : (s.entered v).stackWord 1 = s.sreg.cs := by
  rw [stackWord_entered, framed, stackWord_pushed_succ _ _ (by decide), stackWord_pushed_zero _ (pushed_mem_wf _ h)]

theorem State.stackWord_entered_two (h : s.mem.wf = true) : (s.entered v).stackWord 2 = flagsImage s.flags := by
  rw [stackWord_entered, framed, stackWord_pushed_succ _ _ (by decide), stackWord_pushed_succ _ _ (by decide),
    stackWord_pushed_zero _ h]

/-- Three pushes lower SP by the 6 that three pops raise it. -/
theorem State.entered_gpr_raised :
    { (s.entered v).gpr with sp := (s.entered v).gpr.sp + 4 + 2 } = s.gpr := by
  have hsp : s.gpr.sp - 2 - 2 - 2 + 4 + 2 = s.gpr.sp := by bv_omega
  exact congrArg (fun sp => { s.gpr with sp }) hsp

end

/-! ## The obligations -/

/-- Settles O25: the state is that of `intEntry_answers`, the log that of `intEntry_dataOps`. -/
theorem interruptEntry : Obligations.InterruptEntry := by
  intro v s h off ret p stk
  have hret : s.returnAddress = ret := by
    cases hrep : s.rep with
    | none => simp only [State.returnAddress, ret, hrep]
    | some r =>
      cases hresume : s.params.repResume <;> simp only [State.returnAddress, repReturnAddress, ret, hrep, hresume]
  obtain ⟨_, t, hentry, b, rfl⟩ := (intEntry_answers v h).exists_ok
  have hlog := (intEntry_dataOps v h).of_ok hentry
  refine ⟨_, hentry, ?state, rfl, rfl, ?log⟩
  case state =>
    rw [State.entered, hret]
    rfl
  case log =>
    rw [hlog, State.entryOps_eq, State.framed, hret]

/-- Settles O26: the words IRET pops are the three the entry pushed, and its pops raise SP by what the pushes lowered it. -/
theorem entryThenIret : Obligations.EntryThenIret := by
  intro v s t h hwf hentry
  obtain ⟨b, ht⟩ := (intEntry_answers v h).of_ok hentry
  have hbus : t.accepts := State.accepts_of_eq h (by rw [ht]; rfl)
  have hword (k : Nat) : t.stackWord k = (s.entered v).stackWord k := by rw [ht]; rfl
  have hsreg : { t.sreg with cs := s.sreg.cs } = s.sreg := by rw [ht, State.flush_sreg, State.withBiu_sreg]; rfl
  have hgpr : { t.gpr with sp := t.gpr.sp + 4 + 2 } = s.gpr := by
    rw [ht, State.flush_gpr, State.withBiu_gpr, State.entered_gpr_raised]
  obtain ⟨_, u, hiret, b', rfl⟩ := (intReturn_answers hbus).exists_ok
  refine ⟨_, congrArg Res.out hiret, ?ip, ?sreg, ?flags, hgpr, rfl, rfl⟩
  case ip =>
    change t.stackWord 0 = s.returnAddress
    rw [hword, State.stackWord_entered_zero v hwf]
  case sreg =>
    change { t.sreg with cs := t.stackWord 1 } = s.sreg
    rw [hword, State.stackWord_entered_one v hwf, hsreg]
  case flags =>
    change loadFlags (t.stackWord 2) = s.flags
    rw [hword, State.stackWord_entered_two v hwf, loadFlags_flagsImage]

end Sys2Proof.Machine
end

section
/-! SUPPORT. What an instruction can do, said once for every one of them, whatever the bus rejects. -/

namespace Sys2Proof.Machine

/-! ## Accesses of the bus -/

/-- From `s` to `t` the log only grows, and every byte that reads differently was stored by a write of the added
transactions, with the value it now has (20_memory.md R41, R52). -/
structure Recorded (s t : State) : Prop where
  wf : s.mem.wf = true → t.mem.wf = true
  log : ∃ l, t.busLog = l ++ s.busLog ∧
    (s.mem.wf = true → ∀ a, t.mem.read a ≠ s.mem.read a → BusOp.write a (t.mem.read a) ∈ l)

/-- From `s` to `t` the added transactions are none of the I/O space (20_memory.md R42). -/
def PortFree (s t : State) : Prop := ∃ l, t.busLog = l ++ s.busLog ∧ ∀ o ∈ l, o.isPort = false

/-- From `s` to `t` the queue stays in step with the fetch cursor: both go forward by the bytes of the fills between. -/
def Cursor (s t : State) : Prop :=
  ∃ k, t.queue.length = s.queue.length + k ∧ t.fetchIp = s.fetchIp + BitVec.ofNat 16 k ∧
    (k = 0 ∨ t.queue.length ≤ Config.queueSize)

/-- From `s` to `t` nothing but memory at the addresses `W` and the BIU's fields has changed. -/
structure Stored (W : List Addr) (s t : State) : Prop where
  frame : t = ({ s with mem := t.mem } : State).withBiu t
  recorded : Recorded s t
  outside : ∀ a, a ∉ W → t.mem.read a = s.mem.read a
  ports : PortFree s t

theorem Recorded.of_same {s t : State} (hmem : t.mem = s.mem) (hlog : t.busLog = s.busLog) : Recorded s t :=
  ⟨by rw [hmem]; exact id, [], hlog, fun _ a h => absurd (by rw [hmem]) h⟩

theorem Recorded.trans {s t u : State} (h : Recorded s t) (g : Recorded t u) : Recorded s u := by
  obtain ⟨l, hl, hw⟩ := h.log
  obtain ⟨m, hm, gw⟩ := g.log
  refine ⟨g.wf ∘ h.wf, m ++ l, by rw [hm, hl, List.append_assoc], fun wf a ha => List.mem_append.2 ?_⟩
  by_cases hlast : u.mem.read a = t.mem.read a
  · exact .inr (hlast ▸ hw wf a (hlast ▸ ha))
  · exact .inl (gw (h.wf wf) a hlast)

theorem PortFree.of_same {s t : State} (hlog : t.busLog = s.busLog) : PortFree s t := ⟨[], hlog, by simp⟩

theorem PortFree.trans {s t u : State} (h : PortFree s t) (g : PortFree t u) : PortFree s u := by
  obtain ⟨l, hl, pl⟩ := h
  obtain ⟨m, hm, pm⟩ := g
  refine ⟨m ++ l, by rw [hm, hl, List.append_assoc], fun o ho => ?_⟩
  rcases List.mem_append.1 ho with ho | ho
  exacts [pm o ho, pl o ho]

theorem Cursor.of_same {s t : State} (hq : t.queue = s.queue) (hf : t.fetchIp = s.fetchIp) : Cursor s t :=
  ⟨0, by rw [hq, Nat.add_zero], by rw [hf, BitVec.add_zero], .inl rfl⟩

theorem Cursor.trans {s t u : State} (h : Cursor s t) (g : Cursor t u) : Cursor s u := by
  obtain ⟨k, hk, ck, bk⟩ := h
  obtain ⟨j, hj, cj, bj⟩ := g
  exact ⟨k + j, by omega, by rw [cj, ck, BitVec.add_assoc, BitVec.ofNat_add], by omega⟩

section
variable {W : List Addr} {s t u : State}

theorem Stored.refl (W : List Addr) (s : State) : Stored W s s :=
  ⟨rfl, .of_same rfl rfl, fun _ _ => rfl, .of_same rfl⟩

theorem Stored.trans (h : Stored W s t) (g : Stored W t u) : Stored W s u := by
  refine ⟨?_, h.recorded.trans g.recorded, fun a ha => (g.outside a ha).trans (h.outside a ha), h.ports.trans g.ports⟩
  have e := g.frame
  rw [h.frame] at e
  exact e

/-- What a store leaves alone and later accesses look at. -/
theorem Stored.keeps (h : Stored W s t) : t.gpr = s.gpr ∧ t.sreg = s.sreg ∧ t.flags = s.flags ∧ t.pfx = s.pfx := by
  rw [h.frame]
  exact ⟨rfl, rfl, rfl, rfl⟩

/-- What `Quiet` and `BusStop` say of memory and of the log. -/
theorem Stored.of_reads (hframe : t = s.withBiu t)
    (hlog : ∃ l, t.busLog = l ++ s.busLog ∧ ∀ o ∈ l, o.isMemRead = true) : Stored W s t := by
  have hmem : t.mem = s.mem := by rw [hframe]; rfl
  obtain ⟨l, hl, pl⟩ := hlog
  refine ⟨by rw [hmem]; exact hframe, ⟨by rw [hmem]; exact id, l, hl, fun _ a h => absurd (by rw [hmem]) h⟩,
    fun a _ => by rw [hmem], l, hl, fun o ho => ?_⟩
  have hread := pl o ho
  cases o with
  | fetch | read | write => rfl
  | portRead8 | portRead16 | portWrite8 | portWrite16 => cases hread

theorem Quiet.stored (h : Quiet s t) : Stored W s t := .of_reads h.frame h.log

/-- The write of one byte. -/
theorem Stored.write {a : Addr} (ha : a ∈ W) (v : Byte) (s : State) :
    Stored W s (({ s with mem := s.mem.write a v } : State).log (.write a v)) := by
  have hread (b : Addr) (hb : b ≠ a) : (s.mem.write a v).read b = s.mem.read b := Memory.read_write_other _ v hb
  refine ⟨rfl, ⟨Memory.write_wf a v, [.write a v], rfl, fun wf b hb => ?_⟩, fun b hb => hread b ?_, [_], rfl, ?_⟩
  · obtain rfl : b = a := by_contra fun hne => hb (hread b hne)
    exact List.mem_singleton.2 (congrArg _ (Memory.read_write_same v wf))
  · rintro rfl
    exact hb ha
  · simp [BusOp.isPort]

end

/-- `r` starts in `s` and only accesses the bus, storing at addresses of `W` alone; a rejected access stops it there. -/
def Res.Stores {α : Type} (r : Res α) (W : List Addr) (s : State) : Prop :=
  r.Post (fun _ t => Stored W s t ∧ Cursor s t) fun t => ∃ u, t = u.busFault ∧ Stored W s u

section
variable {α β : Type} {W : List Addr} {s : State}

theorem Res.Stores.bind {r : Res α} {f : α → State → Res β} (h : r.Stores W s)
    (hf : ∀ a t, (f a t).Stores W t) : (r.bind f).Stores W s := by
  refine Res.Post.bind h fun a t ⟨ht, ct⟩ => (hf a t).mono ?_ ?_
  · exact fun _ u ⟨hu, cu⟩ => ⟨ht.trans hu, ct.trans cu⟩
  · exact fun _ ⟨u, e, hu⟩ => ⟨u, e, ht.trans hu⟩

theorem Res.Stores.ok (a : α) (s : State) : (Res.ok a s).Stores W s := ⟨.refl W s, .of_same rfl rfl⟩

/-- An operation that only reads. -/
theorem Res.Stores.of_quiet {r : Res α} (h : r.Post (fun _ t => Quiet s t) (BusStop s)) : r.Stores W s :=
  h.mono (fun _ _ hq => ⟨hq.stored, hq.cursor⟩) fun _ ⟨u, e, hframe, hlog⟩ => ⟨u, e, .of_reads hframe hlog⟩

theorem memRead_stores (ph : Phase) (a : Addr) (s : State) : (memRead ph a s).Stores W s :=
  .of_quiet ((memRead_post ph a s).mono (fun _ _ h => h.2) fun _ => id)

theorem load16_stores (ph : Phase) (seg off : Word) (s : State) : (load16 ph seg off s).Stores W s :=
  .of_quiet ((load16_post ph seg off s).mono (fun _ _ h => h.2) fun _ => id)

theorem memWrite_stores {a : Addr} (ha : a ∈ W) (ph : Phase) (v : Byte) (s : State) :
    (memWrite ph a v s).Stores W s := by
  refine (memWrite_post ph a v s).mono ?_ fun _ ⟨u, e, hframe, hlog⟩ => ⟨u, e, .of_reads hframe hlog⟩
  rintro _ _ ⟨u, hu, rfl⟩
  exact ⟨(Quiet.stored hu).trans (.write ha v u), Cursor.trans hu.cursor (.of_same rfl rfl)⟩

theorem store16_stores {seg off : Word} (hW : [phys seg off, phys seg (off + 1)] ⊆ W) (ph : Phase) (v : Word)
    (s : State) : (store16 ph seg off v s).Stores W s :=
  (memWrite_stores (hW (by simp)) ph _ s).bind fun _ t => memWrite_stores (hW (by simp)) ph _ t

/-- The push stores below the lowered SP. -/
theorem push16_stores (hW : s.pushAddrs 0 ⊆ W) (ph : Phase) (v : Word) :
    (push16 ph v s).Stores W (s.setReg16 .sp (s.gpr.sp - 2)) :=
  store16_stores hW ph v _

end

end Sys2Proof.Machine
end

section
/-! SUPPORT. What an instruction changes and leaves alone, as a relation of two states; the operations that stay within it,
and how they come to what an instruction does. -/

namespace Sys2Proof.Machine

/-! ## What an instruction changes -/

/-- The instruction `i`, which may store at the addresses `W`, can lead from `s` to `t`, queue, IP, registers and status
flags apart: what it leaves alone, and which instructions write the rest. -/
structure Within (i : Instr) (W : List Addr) (s t : State) : Prop where
  recorded : Recorded s t
  outside : ∀ a, a ∉ W → t.mem.read a = s.mem.read a
  ports : usesPorts i = true ∨ PortFree s t
  requests : t.nmiQ = s.nmiQ ∧ t.intrQ = s.intrQ ∧ t.ssLatch = s.ssLatch
  inputs : t.params = s.params ∧ t.testAsserted = s.testAsserted ∧ t.rejects = s.rejects
  tf : t.flags.tf = s.flags.tf ∨ i = .popf ∨ i = .iret
  ifl : t.flags.ifl = s.flags.ifl ∨ i = .cli ∨ i = .sti ∨ i = .popf ∨ i = .iret
  df : t.flags.df = s.flags.df ∨ i = .cld ∨ i = .std ∨ i = .popf ∨ i = .iret
  cs : t.sreg.cs = s.sreg.cs ∨ writesCs i = true
  halted : t.halted = s.halted ∨ i = .hlt
  rep : t.rep = s.rep ∨ i.isString = true
  pfx : t.pfx = s.pfx ∨ i.isPrefix = true
  internalReq : t.internalReq = s.internalReq ∨
    (∃ n, i = .int n) ∨ i = .int3 ∨ i = .into ∨ (∃ f, i = .div f) ∨ (∃ f, i = .idiv f) ∨ ∃ b, i = .aam b

/-- Unchanged by both steps, or the instruction may change it. -/
theorem eq_or_trans {α : Sort*} {a b c : α} {p : Prop} (h : b = a ∨ p) (g : c = b ∨ p) : c = a ∨ p := by
  rcases g with rfl | g
  exacts [h, .inr g]

/-- The decode position stays in step with the queue (10_state.md R31, R35). -/
structure InStep (s : State) : Prop where
  fits : s.queue.length ≤ Config.queueSize
  cursor : s.fetchIp = s.decodePos + BitVec.ofNat 16 s.queue.length

/-- At the end of `i`, run from `s` with a repetition in progress only where it is a string instruction, the queue is in step
again, unless a terminal failure stopped the unit. -/
def Lands (i : Instr) (s t : State) : Prop :=
  t.fault.isSome = true ∨ (s.rep = none ∨ i.isString = true → InStep s → InStep t)

/-- What every meaning comes to. -/
def Does (i : Instr) (s : State) : Prop :=
  ∃ t, exec i s = .next t ∧ Within i (storesOf i s) s t ∧ Lands i s t

/-- As `Within`, where IP stays and the queue goes along with the fetch cursor. -/
structure Kept (i : Instr) (W : List Addr) (s t : State) : Prop where
  within : Within i W s t
  ip : t.ip = s.ip
  cursor : Cursor s t

/-- `r` starts in `s`; it stays within what `i` may do. -/
def Res.Moves {α : Type} (r : Res α) (i : Instr) (W : List Addr) (s : State) : Prop :=
  r.Post (fun _ t => Within i W s t) fun t => Within i W s t ∧ t.fault.isSome = true

/-- And it keeps IP and the queue in step. -/
def Res.Stays {α : Type} (r : Res α) (i : Instr) (W : List Addr) (s : State) : Prop :=
  r.Post (fun _ t => Kept i W s t) fun t => Within i W s t ∧ t.ip = s.ip ∧ t.fault.isSome = true

/-- And it ends with `flush()` (20_memory.md R59). -/
def Res.Flushes (r : Res Unit) (i : Instr) (W : List Addr) (s : State) : Prop :=
  r.Post (fun _ t => Within i W s t ∧ ∃ u : State, t = u.flush) fun t => Within i W s t ∧ t.fault.isSome = true

section
variable {i : Instr} {W : List Addr} {s t u : State}

/-- A change of the state alone: what the defaults cannot show is said where it is used. -/
theorem Within.update (mem : t.mem = s.mem := by rfl) (busLog : t.busLog = s.busLog := by rfl)
    (requests : t.nmiQ = s.nmiQ ∧ t.intrQ = s.intrQ ∧ t.ssLatch = s.ssLatch := by exact ⟨rfl, rfl, rfl⟩)
    (inputs : t.params = s.params ∧ t.testAsserted = s.testAsserted ∧ t.rejects = s.rejects := by
      exact ⟨rfl, rfl, rfl⟩)
    (tf : t.flags.tf = s.flags.tf ∨ i = .popf ∨ i = .iret := by exact .inl rfl)
    (ifl : t.flags.ifl = s.flags.ifl ∨ i = .cli ∨ i = .sti ∨ i = .popf ∨ i = .iret := by exact .inl rfl)
    (df : t.flags.df = s.flags.df ∨ i = .cld ∨ i = .std ∨ i = .popf ∨ i = .iret := by exact .inl rfl)
    (cs : t.sreg.cs = s.sreg.cs ∨ writesCs i = true := by exact .inl rfl)
    (halted : t.halted = s.halted ∨ i = .hlt := by exact .inl rfl)
    (rep : t.rep = s.rep ∨ i.isString = true := by exact .inl rfl)
    (pfx : t.pfx = s.pfx ∨ i.isPrefix = true := by exact .inl rfl)
    (internalReq : t.internalReq = s.internalReq ∨
      (∃ n, i = .int n) ∨ i = .int3 ∨ i = .into ∨ (∃ f, i = .div f) ∨ (∃ f, i = .idiv f) ∨ (∃ b, i = .aam b) := by
        exact .inl rfl) : Within i W s t where
  recorded := .of_same mem busLog
  outside _ _ := by rw [mem]
  ports := .inr (.of_same busLog)
  requests := requests
  inputs := inputs
  tf := tf
  ifl := ifl
  df := df
  cs := cs
  halted := halted
  rep := rep
  pfx := pfx
  internalReq := internalReq

theorem Within.refl (i : Instr) (W : List Addr) (s : State) : Within i W s s := .update

theorem Within.trans (h : Within i W s t) (g : Within i W t u) : Within i W s u where
  recorded := h.recorded.trans g.recorded
  outside a ha := (g.outside a ha).trans (h.outside a ha)
  ports := by
    rcases h.ports with hp | hp
    · exact .inl hp
    · exact g.ports.imp_right hp.trans
  requests := ⟨g.requests.1.trans h.requests.1, g.requests.2.1.trans h.requests.2.1,
    g.requests.2.2.trans h.requests.2.2⟩
  inputs := ⟨g.inputs.1.trans h.inputs.1, g.inputs.2.1.trans h.inputs.2.1, g.inputs.2.2.trans h.inputs.2.2⟩
  tf := eq_or_trans h.tf g.tf
  ifl := eq_or_trans h.ifl g.ifl
  df := eq_or_trans h.df g.df
  cs := eq_or_trans h.cs g.cs
  halted := eq_or_trans h.halted g.halted
  rep := eq_or_trans h.rep g.rep
  pfx := eq_or_trans h.pfx g.pfx
  internalReq := eq_or_trans h.internalReq g.internalReq

theorem Stored.within (i : Instr) (h : Stored W s t) : Within i W s t := by
  have hsame : Within i W ({ s with mem := t.mem } : State) ({ t with busLog := s.busLog } : State) := by
    rw [h.frame]
    exact .update
  exact { hsame with recorded := h.recorded, outside := h.outside, ports := .inr h.ports }

theorem Stored.ip (h : Stored W s t) : t.ip = s.ip := by
  rw [h.frame]
  rfl

theorem Stored.kept (h : Stored W s t) (c : Cursor s t) (i : Instr) : Kept i W s t := ⟨h.within i, h.ip, c⟩

theorem Kept.refl (i : Instr) (W : List Addr) (s : State) : Kept i W s s := ⟨.refl i W s, rfl, .of_same rfl rfl⟩

theorem Kept.trans (h : Kept i W s t) (g : Kept i W t u) : Kept i W s u :=
  ⟨h.within.trans g.within, g.ip.trans h.ip, h.cursor.trans g.cursor⟩

/-- A change of fields that fill points, IP and the queue have no part in. -/
theorem Within.kept (h : Within i W s t) (hip : t.ip = s.ip := by rfl) (hqueue : t.queue = s.queue := by rfl)
    (hfetch : t.fetchIp = s.fetchIp := by rfl) : Kept i W s t := ⟨h, hip, .of_same hqueue hfetch⟩

theorem Within.busFault (i : Instr) (W : List Addr) (s : State) : Within i W s s.busFault := .update

end

section
variable {α β : Type} {i : Instr} {W : List Addr} {s t : State}

theorem Res.Stays.ok (a : α) (h : Kept i W s t) : (Res.ok a t).Stays i W s := h

theorem Res.Stays.moves {r : Res α} (h : r.Stays i W s) : r.Moves i W s :=
  h.mono (fun _ _ hk => hk.within) fun _ ⟨hw, _, hf⟩ => ⟨hw, hf⟩

/-- A pure change before the operation. -/
theorem Res.Stays.after {r : Res α} (h : r.Stays i W t) (hk : Kept i W s t) : r.Stays i W s :=
  h.mono (fun _ _ => hk.trans) fun _ ⟨hw, hip, hf⟩ => ⟨hk.within.trans hw, hip.trans hk.ip, hf⟩

theorem Res.Stays.bind {r : Res α} {f : α → State → Res β} (h : r.Stays i W s)
    (hf : ∀ a t, (f a t).Stays i W t) : (r.bind f).Stays i W s :=
  Res.Post.bind h fun a t hk => (hf a t).after hk

/-- A pure change after the operation. -/
theorem Res.Stays.andThen {r : Res α} {f : α → State → State} (h : r.Stays i W s)
    (hf : ∀ a t, Kept i W t (f a t)) : (r.andThen f).Stays i W s :=
  h.bind fun a t => .ok () (hf a t)

/-- A pure change before the operation. -/
theorem Res.Flushes.after {r : Res Unit} (h : r.Flushes i W t) (hw : Within i W s t) : r.Flushes i W s :=
  h.mono (fun _ _ ⟨hu, hq⟩ => ⟨hw.trans hu, hq⟩) fun _ ⟨hu, hfault⟩ => ⟨hw.trans hu, hfault⟩

theorem Res.Moves.bind_flushes {r : Res α} {f : α → State → Res Unit} (h : r.Moves i W s)
    (hf : ∀ a t, (f a t).Flushes i W t) : (r.bind f).Flushes i W s :=
  Res.Post.bind h fun a t ht => (hf a t).after ht

theorem Res.Flushes.ok (h : Within i W s t.flush) : (Res.ok () t.flush).Flushes i W s := ⟨h, t, rfl⟩

theorem Res.Stores.stays {r : Res α} (h : r.Stores W s) (i : Instr) : r.Stays i W s := by
  refine h.mono (fun _ _ ⟨hs, hc⟩ => hs.kept hc i) ?_
  rintro _ ⟨u, rfl, hu⟩
  exact ⟨(hu.within i).trans (.busFault i W u), hu.ip, rfl⟩

/-- Accesses first, and then an operation that looks at what they left alone. -/
theorem Res.Stores.bind_stays {r : Res α} {f : α → State → Res β} (h : r.Stores W s)
    (hf : ∀ a t, Stored W s t → (f a t).Stays i W t) : (r.bind f).Stays i W s := by
  cases r with
  | ok a t => exact (hf a t h.1).after (h.1.kept h.2 i)
  | stop t => exact Res.Stores.stays (r := .stop t) h i

theorem Res.Stores.bind_flushes {r : Res α} {f : α → State → Res Unit} (h : r.Stores W s)
    (hf : ∀ a t, Stored W s t → (f a t).Flushes i W t) : (r.bind f).Flushes i W s := by
  cases r with
  | ok a t => exact (hf a t h.1).after (h.1.within i)
  | stop t => exact (Res.Stores.stays (r := .stop t) h i).moves

/-! ## From an operation to its instruction -/

theorem InStep.of_cursor {s t : State} (h : InStep s) (hc : Cursor s t) (hpos : t.decodePos = s.decodePos) :
    InStep t := by
  obtain ⟨k, hlen, hfetch, hfits⟩ := hc
  refine ⟨?_, by rw [hfetch, h.cursor, hpos, hlen, BitVec.ofNat_add, BitVec.add_assoc]⟩
  have := h.fits
  omega

theorem Lands.of_kept (hi : i.isString = false) (h : Kept i W s t) : Lands i s t := by
  refine .inr fun _ hs => ?_
  have hrep : t.rep = s.rep := h.within.rep.resolve_right (by simp [hi])
  exact hs.of_cursor h.cursor (by rw [State.decodePos, State.decodePos, hrep, h.ip])

/-- After a flush (20_memory.md R59) the queue is in step, no repetition being in progress. -/
theorem Lands.of_flush (hi : i.isString = false) (h : Within i W s t.flush) : Lands i s t.flush := by
  refine .inr fun hrep _ => ⟨by simp, ?_⟩
  have hnone : t.flush.rep = none := (h.rep.resolve_right (by simp [hi])).trans (hrep.resolve_right (by simp [hi]))
  rw [State.decodePos, hnone]
  exact (BitVec.add_zero _).symm

theorem Does.of_kept (hexec : exec i s = .next t) (h : Kept i (storesOf i s) s t) (hi : i.isString = false := by rfl) :
    Does i s := ⟨t, hexec, h.within, .of_kept hi h⟩

theorem Does.of_flush (hexec : exec i s = .next t.flush) (h : Within i (storesOf i s) s t.flush)
    (hi : i.isString = false := by rfl) : Does i s := ⟨t.flush, hexec, h, .of_flush hi h⟩

theorem Does.of_fault (hexec : exec i s = .next t) (h : Within i (storesOf i s) s t) (hfault : t.fault.isSome = true) :
    Does i s := ⟨t, hexec, h, .inl hfault⟩

theorem Does.of_stays {r : Res Unit} (hexec : exec i s = r.out) (h : r.Stays i (storesOf i s) s)
    (hi : i.isString = false := by rfl) : Does i s := by
  cases r with
  | ok _ t => exact .of_kept hexec h hi
  | stop t => exact .of_fault hexec h.1 h.2.2

/-- An operation that ends with the flush. -/
theorem Does.of_flushes {r : Res Unit} (hexec : exec i s = r.out) (h : r.Flushes i (storesOf i s) s)
    (hi : i.isString = false := by rfl) : Does i s := by
  cases r with
  | ok _ t =>
    obtain ⟨hw, u, rfl⟩ := h
    exact .of_flush hexec hw hi
  | stop t => exact .of_fault hexec h.1 h.2

/-- An undocumented encoding (47_undocumented.md R183) is refused, or does what its body does. -/
theorem Does.of_undocumented {m : String} {body : State → Res Unit} (hexec : exec i s = (undocumented m body s).out)
    (h : exec i s = (body s).out → Does i s) : Does i s := by
  rcases undocumented_cases m body s with ⟨-, hbody⟩ | ⟨-, hstop⟩
  · exact h (by rw [hexec, hbody])
  · exact .of_fault (t := s.refuse m) (by rw [hexec, hstop]; rfl) .update rfl

end

end Sys2Proof.Machine
end

section
/-! SUPPORT. The updates, the operand accesses and the shared bodies of the instruction families stay within what their
instructions may do. -/

namespace Sys2Proof.Machine

/-! ## Updates and operands -/

/-- TF, IF and DF, which the arithmetic leaves alone (10_state.md R28). -/
def SameControl (f g : Flags) : Prop := g.tf = f.tf ∧ g.ifl = f.ifl ∧ g.df = f.df

theorem aluFlags_sameControl {w : Nat} (k : AluOp) (a c : BitVec w) (af : Bool) (f : Flags) :
    SameControl f (aluFlags k a c af f) := by
  cases k <;> exact ⟨rfl, rfl, rfl⟩

section
variable {i : Instr} {W : List Addr} {s : State} {w : Nat}

theorem Kept.setReg16 (r : Reg16) (v : Word) : Kept i W s (s.setReg16 r v) := Within.kept .update

theorem Kept.setReg8 (r : Reg8) (v : Byte) : Kept i W s (s.setReg8 r v) := Within.kept .update

/-- Another segment register than CS, or an instruction that may write it. -/
theorem Kept.setSeg {r : SReg} (hr : r ≠ .cs ∨ writesCs i = true) (v : Word) : Kept i W s (s.setSeg r v) := by
  refine Within.kept (.update (cs := hr.imp_left fun hne => ?_))
  cases r with
  | cs => exact absurd rfl hne
  | es | ss | ds => rfl

theorem Kept.segLoaded : Kept i W s s.segLoaded := Within.kept .update

theorem Kept.setFlags {f : Flags} (hf : SameControl s.flags f) : Kept i W s (s.setFlags f) :=
  Within.kept (.update (tf := .inl hf.1) (ifl := .inl hf.2.1) (df := .inl hf.2.2))

theorem Kept.drew (n : Nat) : Kept i W s (s.drew n) := Within.kept .update

/-- Status flags, written at the end of an instruction. -/
theorem Kept.flagged {f : Flags} (n : Nat) (hf : SameControl s.flags f := by exact ⟨rfl, rfl, rfl⟩) :
    Kept i W s ((s.setFlags f).drew n) := (Kept.setFlags hf).trans (.drew n)

theorem Kept.aluFlagged (k : AluOp) (a c : BitVec w) : Kept i W s (s.aluFlagged k a c) :=
  .flagged _ (aluFlags_sameControl k a c _ _)

theorem Kept.mulFlagged (ovf : Bool) : Kept i W s (s.mulFlagged ovf) := .flagged 4

theorem Kept.statusDrawn : Kept i W s s.statusDrawn := .flagged 6

theorem Kept.shiftFlagged (op : ShiftOp) (n : Nat) (x r : BitVec w) : Kept i W s (s.shiftFlagged op n x r) := by
  refine .flagged 2 ?_
  split <;> exact ⟨rfl, rfl, rfl⟩

theorem Place.read_stores (p : Place w) (s : State) : (p.read s).Stores W s := by
  cases p with
  | r8 r | r16 r => exact .ok _ s
  | m8 seg off => exact memRead_stores .exec _ s
  | m16 seg off => exact load16_stores .exec seg off s

theorem Src.read_stores (x : Src w) (s : State) : (x.read s).Stores W s := by
  cases x with
  | place p => exact p.read_stores s
  | imm v => exact .ok v s

theorem Place.write_stays {p : Place w} (hp : p.addrs ⊆ W) (v : BitVec w) (s : State) :
    (p.write v s).Stays i W s := by
  cases p with
  | r8 r => exact .ok () (.setReg8 r v)
  | r16 r => exact .ok () (.setReg16 r v)
  | m8 seg off => exact (memWrite_stores (hp (by simp [Place.addrs])) .exec v s).stays i
  | m16 seg off => exact (store16_stores hp .exec v s).stays i

/-- An operand read, and then an update by its value. -/
theorem Place.read_andThen_stays {f : BitVec w → State → State} (p : Place w) (hf : ∀ v t, Kept i W t (f v t)) :
    ((p.read s).andThen f).Stays i W s := ((p.read_stores s).stays i).andThen hf

/-! ## Moves and the stack -/

theorem moveTo_stays {dst : Place w} (src : Src w) (hdst : dst.addrs ⊆ W) : (moveTo dst src s).Stays i W s :=
  ((src.read_stores s).stays i).bind fun v => Place.write_stays hdst v

theorem exchange_stays {e g : Place w} (he : e.addrs ⊆ W) (hg : g.addrs ⊆ W) : (exchange e g s).Stays i W s :=
  ((e.read_stores s).stays i).bind fun v t => ((g.read_stores t).stays i).bind fun u t =>
    (Place.write_stays he u t).bind fun _ => Place.write_stays hg v

theorem loadFar_stores (m : Mem) : (loadFar m s).Stores W s :=
  (load16_stores .exec _ _ s).bind fun _ t => (load16_stores .exec _ _ t).bind fun _ => .ok _

theorem push16_stays {s : State} (hW : s.pushAddrs 0 ⊆ W) (ph : Phase) (v : Word) : (push16 ph v s).Stays i W s :=
  ((push16_stores hW ph v).stays i).after (.setReg16 _ _)

theorem pushReg_stays (r : Reg16) (hW : s.pushAddrs 0 ⊆ W) : (pushReg r s).Stays i W s := by
  cases r <;> exact push16_stays hW .exec _

/-- Reads leave the stack where it was. -/
theorem Stored.pushAddrs {t : State} (h : Stored W s t) (k : Nat) : t.pushAddrs k = s.pushAddrs k := by
  rw [State.pushAddrs, State.pushAddrs, h.keeps.1, h.keeps.2.1]

theorem pushRm_stays (e : Rm16) (hW : s.pushAddrs 0 ⊆ W) : (pushRm e s).Stays i W s := by
  cases e with
  | reg r => exact pushReg_stays r hW
  | mem m => exact (load16_stores .exec _ _ s).bind_stays fun v t ht => push16_stays (ht.pushAddrs 0 ▸ hW) .exec v

theorem pop16_stays : (pop16 s).Stays i W s :=
  ((load16_stores .exec _ _ s).stays i).bind fun _ _ => .ok _ (.setReg16 _ _)

theorem popReg_stays (r : Reg16) : (popReg r s).Stays i W s := pop16_stays.bind fun v _ => .ok () (.setReg16 r v)

theorem popRm_stays (e : Rm16) (hW : (place16 e s).addrs ⊆ W) : (popRm e s).Stays i W s :=
  pop16_stays.bind fun v => Place.write_stays hW v

theorem popSeg_stays {r : SReg} (hr : r ≠ .cs ∨ writesCs i = true) : (popSeg r s).Stays i W s :=
  pop16_stays.bind fun v _ => .ok () ((Kept.setSeg hr v).trans .segLoaded)

theorem movToSeg_stays {r : SReg} (hr : r ≠ .cs) (e : Rm16) : (movToSeg r e s).Stays i W s :=
  (((place16 e s).read_stores s).stays i).bind fun v _ => .ok () ((Kept.setSeg (.inl hr) v).trans .segLoaded)

/-! ## Arithmetic and logic -/

theorem aluOn_stays {k : AluOp} {dst : Place w} (src : Src w) (hdst : k ≠ .cmp → dst.addrs ⊆ W) :
    (aluOn k dst src s).Stays i W s := by
  refine ((dst.read_stores s).stays i).bind fun a t => ((src.read_stores t).stays i).bind fun c t => ?_
  refine Res.Stays.bind ?_ fun _ t => .ok () (.aluFlagged k a c)
  cases k with
  | cmp => exact .ok () (.refl i W t)
  | add | or | adc | sbb | and | sub | xor => exact Place.write_stays (hdst (by decide)) _ t

theorem alu_stays {k : AluOp} {f : AluForm} (hW : k ≠ .cmp → storesAlu f s ⊆ W) : (alu k f s).Stays i W s := by
  cases f <;> exact aluOn_stays _ hW

theorem testOn_stays (a c : Src w) : (testOn a c s).Stays i W s :=
  ((a.read_stores s).stays i).bind fun _ t => ((c.read_stores t).stays i).bind fun _ _ => .ok () (.aluFlagged _ _ _)

theorem rmw_stays {p : Place w} {f : BitVec w → BitVec w} {fl : BitVec w → Flags → Flags}
    (hfl : ∀ a g, SameControl g (fl a g)) (hp : p.addrs ⊆ W) : (rmw p f fl s).Stays i W s :=
  ((p.read_stores s).stays i).bind fun a t => (Place.write_stays hp _ t).bind fun _ _ => .ok () (.setFlags (hfl a _))

theorem incOn_stays {p : Place w} (hp : p.addrs ⊆ W) : (incOn p s).Stays i W s :=
  rmw_stays (fun _ _ => ⟨rfl, rfl, rfl⟩) hp

theorem decOn_stays {p : Place w} (hp : p.addrs ⊆ W) : (decOn p s).Stays i W s :=
  rmw_stays (fun _ _ => ⟨rfl, rfl, rfl⟩) hp

theorem negOn_stays {p : Place w} (hp : p.addrs ⊆ W) : (negOn p s).Stays i W s :=
  rmw_stays (fun _ _ => ⟨rfl, rfl, rfl⟩) hp

theorem notOn_stays {p : Place w} (hp : p.addrs ⊆ W) : (notOn p s).Stays i W s :=
  rmw_stays (fun _ _ => ⟨rfl, rfl, rfl⟩) hp

theorem shiftOn_stays {op : ShiftOp} {p : Place w} (n : Nat) (hp : p.addrs ⊆ W) : (shiftOn op p n s).Stays i W s := by
  refine ((p.read_stores s).stays i).bind fun x t => ?_
  split
  · exact .ok () (.refl i W t)
  · exact ((Place.write_stays hp _ _).after (.setFlags (by exact ⟨rfl, rfl, rfl⟩))).bind fun _ _ =>
      .ok () (.shiftFlagged op n x _)

theorem shift_stays {op : ShiftOp} {f : ShiftForm} (hW : storesShift f s ⊆ W) : (shift op f s).Stays i W s := by
  cases f <;> exact shiftOn_stays _ hW

theorem setOnes_stays {p : Place w} (hp : p.addrs ⊆ W) : (setOnes p s).Stays i W s :=
  (Place.write_stays hp _ s).andThen fun _ _ => .setFlags ⟨rfl, rfl, rfl⟩

theorem Kept.decimalAdjusted (r : Byte × Bool × Bool) (bcd : Bool) : Kept i W s (s.decimalAdjusted r bcd) :=
  (Kept.setReg8 .al _).trans (.flagged 3)

theorem Kept.asciiAdjusted (r : Byte × Byte × Bool) : Kept i W s (s.asciiAdjusted r) :=
  ((Kept.setReg8 .al _).trans (.setReg8 .ah _)).trans (.flagged 4)

theorem Kept.radixAdjusted (ah al : Byte) : Kept i W s (s.radixAdjusted ah al) :=
  ((Kept.setReg8 .al _).trans (.setReg8 .ah _)).trans (.flagged 3)

/-! ## Calls and returns -/

/-- The second push stores below the first. -/
theorem State.pushAddrs_lowered (s : State) : (s.setReg16 .sp (s.gpr.sp - 2)).pushAddrs 0 = s.pushAddrs 1 := by
  have hoff : s.gpr.sp - 2 - 2 = s.gpr.sp - 4 := BitVec.sub_sub ..
  exact congrArg (fun off => [phys s.sreg.ss off, phys s.sreg.ss (off + 1)]) hoff

theorem callFarTo_flushes (hi : writesCs i = true) (hW : s.pushAddrs 0 ++ s.pushAddrs 1 ⊆ W) (off seg : Word) :
    (callFarTo off seg s).Flushes i W s := by
  obtain ⟨hfirst, hsecond⟩ := List.append_subset.1 hW
  refine Res.Flushes.after (Res.Stores.bind_flushes (push16_stores hfirst .exec _) fun _ t ht => ?_) (.update (i := i))
  rw [← s.pushAddrs_lowered, ← ht.pushAddrs 0] at hsecond
  exact (push16_stays hsecond .exec _).moves.bind_flushes fun _ _ => .ok (.update (cs := .inr hi))

theorem retNear_flushes (n : Word) : (retNear n s).Flushes i W s :=
  pop16_stays.moves.bind_flushes fun _ _ => .ok .update

theorem retFar_flushes (hi : writesCs i = true) (n : Word) : (retFar n s).Flushes i W s :=
  pop16_stays.moves.bind_flushes fun _ _ =>
    (pop16_stays.moves.bind_flushes fun _ _ => .ok (.update (cs := .inr hi))).after .update

/-- IRET alone pops CS and the flags. -/
theorem intReturn_flushes : (intReturn s).Flushes .iret W s :=
  pop16_stays.moves.bind_flushes fun _ _ =>
    (pop16_stays.moves.bind_flushes fun _ _ =>
      (pop16_stays.moves.bind_flushes fun _ _ => .ok (.update (tf := .inr (.inr rfl)) (ifl := .inr (by simp))
        (df := .inr (by simp)))).after (.update (cs := .inr rfl))).after .update

theorem movToCs_flushes (hi : writesCs i = true) (e : Rm16) : (movToCs e s).Flushes i W s :=
  (((place16 e s).read_stores s).stays i).moves.bind_flushes fun _ _ => .ok (.update (cs := .inr hi))

end

end Sys2Proof.Machine
end

section
/-! SUPPORT. The string instructions: one element, and how a unit of work leaves the repetition (43_string.md R140). -/

namespace Sys2Proof.Machine

/-! ## String instructions (43_string.md R140) -/

/-- The element of a string operation (R142 to R146); `exec_strOp` ties it to the machine. -/
def StrOp.element : StrOp → StrWidth → State → Res Unit
  | .movs => movsElem
  | .cmps => cmpsElem
  | .scas => scasElem
  | .lods => lodsElem
  | .stos => stosElem

theorem exec_strOp (o : StrOp) (n : StrWidth) (s : State) :
    exec (o.instr n) s = (stringUnit (o.instr n) o.compares (o.element n) s).out := by
  cases o <;> cases n <;> rfl

theorem StrOp.instr_isString (o : StrOp) (n : StrWidth) : (o.instr n).isString = true := by
  cases o <;> cases n <;> rfl

theorem StrOp.instr_isPrefix (o : StrOp) (n : StrWidth) : (o.instr n).isPrefix = false := by
  cases o <;> cases n <;> rfl

theorem exists_strOp_of_isString {i : Instr} (hi : i.isString = true) : ∃ o n, i = StrOp.instr o n := by
  simp only [Instr.isString, Bool.or_eq_true, decide_eq_true_eq] at hi
  rcases hi with ((((((((rfl | rfl) | rfl) | rfl) | rfl) | rfl) | rfl) | rfl) | rfl) | rfl
  exacts [⟨.movs, .byte, rfl⟩, ⟨.movs, .word, rfl⟩, ⟨.cmps, .byte, rfl⟩, ⟨.cmps, .word, rfl⟩, ⟨.stos, .byte, rfl⟩,
    ⟨.stos, .word, rfl⟩, ⟨.lods, .byte, rfl⟩, ⟨.lods, .word, rfl⟩, ⟨.scas, .byte, rfl⟩, ⟨.scas, .word, rfl⟩]

section
variable {i : Instr} {W : List Addr} {s t : State}

/-- Accesses leave the destination element where it was. -/
theorem Stored.dstElem (h : Stored W s t) (n : StrWidth) : dstElem n t = dstElem n s := by
  rw [Machine.dstElem, Machine.dstElem, h.keeps.1, h.keeps.2.1]

theorem StrWidth.acc_addrs (n : StrWidth) : n.acc.addrs ⊆ W := by cases n <;> exact List.nil_subset W

theorem StrOp.storesOf_instr (o : StrOp) (n : StrWidth) (ho : o = .movs ∨ o = .stos) :
    storesOf (o.instr n) s = (dstElem n s).addrs := by
  rcases ho with rfl | rfl <;> cases n <;> rfl

/-- One element stays within what any instruction may do that stores where it does. -/
theorem StrOp.element_stays (o : StrOp) (n : StrWidth) (hW : storesOf (o.instr n) s ⊆ W) :
    (o.element n s).Stays i W s := by
  have hsi (t : State) : Kept i W t (t.moveSi n) := .setReg16 _ _
  have hdi (t : State) : Kept i W t (t.moveDi n) := .setReg16 _ _
  cases o with
  | movs =>
    rw [storesOf_instr .movs n (.inl rfl)] at hW
    refine ((srcElem n s).read_stores s).bind_stays fun v t ht => ?_
    rw [ht.dstElem n]
    exact (Place.write_stays hW v t).bind fun _ u => .ok () ((hsi u).trans (hdi _))
  | cmps =>
    exact (((srcElem n s).read_stores s).stays i).bind fun a t => (((dstElem n t).read_stores t).stays i).bind fun c u =>
      .ok () (((Kept.aluFlagged .cmp a c).trans (hsi _)).trans (hdi _))
  | scas =>
    exact (((dstElem n s).read_stores s).stays i).bind fun c t => ((n.acc.read_stores t).stays i).bind fun a u =>
      .ok () ((Kept.aluFlagged .cmp a c).trans (hdi _))
  | lods =>
    exact (((srcElem n s).read_stores s).stays i).bind fun v t => (Place.write_stays n.acc_addrs v t).bind fun _ u =>
      .ok () (hsi u)
  | stos =>
    rw [storesOf_instr .stos n (.inr rfl)] at hW
    refine (n.acc.read_stores s).bind_stays fun v t ht => ?_
    rw [ht.dstElem n]
    exact (Place.write_stays hW v t).bind fun _ u => .ok () (hdi u)

/-- How a unit of `ins` leaves the repetition: the decode position stays, and where no F2h or F3h stands in front, `rep` too; a
repetition in progress is of `ins`, under F2h or F3h, with IP at its first byte (10_state.md R24, R35). -/
structure UnitEnd (ins : Instr) (s t : State) : Prop where
  cursor : Cursor s t
  decodePos : t.decodePos = s.decodePos
  rep : (s.pfx.rep = none ∧ t.rep = s.rep) ∨ t.rep = none ∨
    ∃ p, t.rep = some ⟨ins, p, s.decodePos⟩ ∧ p.rep.isSome = true ∧ t.ip = p.start

theorem stringUnit_post {ins : Instr} (cmp : Bool) {element : State → Res Unit} (hi : i.isString = true)
    (hpfx : i.isPrefix = false) (hel : ∀ j, (element s).Stays j W s) :
    (stringUnit ins cmp element s).Post (fun _ t => Within i W s t ∧ UnitEnd ins s t)
      fun t => Within i W s t ∧ t.ip = s.ip ∧ t.rep = s.rep ∧ t.fault.isSome = true := by
  have hnop := hel .nop
  have hown := hel i
  have hpos : s.afterIns = s.decodePos := rfl
  simp only [stringUnit, hpos]
  split
  next hr =>
    cases he : element s with
    | stop t =>
      rw [he] at hnop hown
      exact ⟨hown.1, hown.2.1, hnop.1.rep.resolve_right (by decide), hown.2.2⟩
    | ok _ t =>
      rw [he] at hnop hown
      have hrep : t.rep = s.rep := hnop.within.rep.resolve_right (by decide)
      refine ⟨hown.within.trans .update, hown.cursor.trans (.of_same rfl rfl), ?_, .inl ⟨hr, hrep⟩⟩
      simp only [State.decodePos, State.setIp_rep, State.setIp_ip, hrep]
      cases s.rep <;> rfl
  next k hk =>
    split
    · exact ⟨.update (rep := .inr hi), .of_same rfl rfl, rfl, .inr (.inl rfl)⟩
    · cases he : element s with
      | stop t =>
        rw [he] at hnop hown
        exact ⟨hown.1, hown.2.1, hnop.1.rep.resolve_right (by decide), hown.2.2⟩
      | ok _ t =>
        rw [he] at hown
        have hpfx : t.pfx.rep.isSome = true := by rw [hown.within.pfx.resolve_right (by simp [hpfx]), hk]; rfl
        simp only [Res.andThen, Res.bind]
        split
        · exact ⟨hown.within.trans (.update (rep := .inr hi)), hown.cursor.trans (.of_same rfl rfl), rfl,
            .inr (.inl rfl)⟩
        · exact ⟨hown.within.trans (.update (rep := .inr hi)), hown.cursor.trans (.of_same rfl rfl), rfl,
            .inr (.inr ⟨_, rfl, hpfx, rfl⟩)⟩

end

/-- What a unit of a string instruction comes to. -/
theorem exec_string {i : Instr} (s : State) (hi : i.isString = true) :
    ∃ t, exec i s = .next t ∧ Within i (storesOf i s) s t ∧
      (UnitEnd i s t ∨ (t.ip = s.ip ∧ t.rep = s.rep ∧ t.fault.isSome = true)) := by
  obtain ⟨o, n, rfl⟩ := exists_strOp_of_isString hi
  have hpost := stringUnit_post (ins := o.instr n) o.compares hi (o.instr_isPrefix n)
    (fun j => o.element_stays n (s := s) (i := j) (List.Subset.refl _))
  rw [exec_strOp]
  cases hr : stringUnit (o.instr n) o.compares (o.element n) s with
  | ok _ t =>
    rw [hr] at hpost
    exact ⟨t, rfl, hpost.1, .inl hpost.2⟩
  | stop t =>
    rw [hr] at hpost
    exact ⟨t, rfl, hpost.1, .inr hpost.2⟩

theorem Does.of_string {i : Instr} (s : State) (hi : i.isString = true) : Does i s := by
  obtain ⟨t, hexec, hw, hend | ⟨-, -, hfault⟩⟩ := exec_string s hi
  · exact ⟨t, hexec, hw, .inr fun _ hs => hs.of_cursor hend.cursor hend.decodePos⟩
  · exact .of_fault hexec hw hfault

theorem State.repOk_of_none {s : State} (h : s.rep = none) : s.repOk = true := by rw [repOk, h]

theorem State.repOk_of_same {s t : State} (hrep : t.rep = s.rep) (hip : t.ip = s.ip) : t.repOk = s.repOk := by
  rw [repOk, repOk, hrep, hip]

/-- After a unit of a string instruction a repetition in progress is well-formed, if it was so before and the unit ran under
its F2h or F3h. -/
theorem exec_string_repOk {i : Instr} {s t : State} (hi : i.isString = true) (hexec : exec i s = .next t)
    (hok : s.repOk = true) (hrep : s.rep = none ∨ s.pfx.rep.isSome = true) : t.repOk = true := by
  obtain ⟨u, hu, -, hend⟩ := exec_string s hi
  obtain rfl : u = t := by simpa [hu] using hexec
  rcases hend with ⟨-, -, ⟨hnone, hsame⟩ | hnone | ⟨p, hp, hrepeat, hip⟩⟩ | ⟨hip, hsame, -⟩
  · exact State.repOk_of_none (hsame.trans (hrep.resolve_right (by simp [hnone])))
  · exact State.repOk_of_none hnone
  · simp [State.repOk, hp, hi, hrepeat, hip]
  · rwa [State.repOk_of_same hsame hip]

end Sys2Proof.Machine
end

section
/-! SUPPORT. What each instruction does, one case per constructor; then the proofs of the obligations on what
instructions store to, reach and change. -/

namespace Sys2Proof.Machine

/-! ## Every instruction -/

section
variable {i : Instr} {W : List Addr} {s t : State}

/-- A port transaction (20_memory.md R42), possibly after a draw. -/
theorem Kept.logPort (hi : usesPorts i = true) (o : BusOp) (n : Nat) : Kept i W s ((s.drew n).log o) := by
  refine ⟨{ (Within.refl i W (s.drew n)) with recorded := ⟨id, [o], rfl, ?_⟩, ports := .inl hi }, rfl, .of_same rfl rfl⟩
  exact fun _ a ha => absurd rfl ha

/-- A port access after its fill point, which a rejection stops. -/
theorem portAccess_stays {α : Type} {write : Bool} {p : Nat} {f : State → Res α} (hf : ∀ t, (f t).Stays i W t) :
    ((fill s).bind fun _ t => if t.rejected .io write p then .stop t.busFault else f t).Stays i W s := by
  refine ((Res.Stores.of_quiet (fill_post s)).stays i).bind fun _ t => ?_
  split
  · exact ⟨.busFault i W t, rfl, rfl⟩
  · exact hf t

theorem ioRead8_stays (hi : usesPorts i = true) (p : Word) : (ioRead8 p s).Stays i W s :=
  portAccess_stays fun _ => .ok _ (.logPort hi _ 1)

theorem ioRead16_stays (hi : usesPorts i = true) (p : Word) : (ioRead16 p s).Stays i W s :=
  portAccess_stays fun _ => .ok _ (.logPort hi _ 1)

theorem ioWrite8_stays (hi : usesPorts i = true) (p : Word) (v : Byte) : (ioWrite8 p v s).Stays i W s :=
  portAccess_stays fun _ => .ok _ (.logPort hi _ 0)

theorem ioWrite16_stays (hi : usesPorts i = true) (p v : Word) : (ioWrite16 p v s).Stays i W s :=
  portAccess_stays fun _ => .ok _ (.logPort hi _ 0)

/-- A branch, taken or not (44_control_transfer.md R148). -/
theorem Does.of_branch {taken : Bool} {rel : Byte} (hexec : exec i s = .next (t.branch taken rel))
    (h : Kept i (storesOf i s) s t) (hi : i.isString = false := by rfl) : Does i s := by
  rw [State.branch] at hexec
  split at hexec
  · exact .of_flush hexec (h.within.trans .update) hi
  · exact .of_kept hexec h hi

theorem Does.of_branchAlias {c : Cond} {rel : Byte} {m : String}
    (hexec : exec i s = (undocumented m (fun s => .ok () (s.branch (c.holds s.flags) rel)) s).out)
    (hi : i.isString = false := by rfl) : Does i s :=
  .of_undocumented hexec fun he => .of_branch he (.refl _ _ _) hi

theorem Does.of_pushReg {r : Reg16} (hexec : exec i s = (pushReg r s).out) (hW : storesOf i s = s.pushAddrs 0)
    (hi : i.isString = false := by rfl) : Does i s := .of_stays hexec (pushReg_stays r (hW ▸ List.Subset.refl _)) hi

theorem Does.of_push16 {v : Word} (hexec : exec i s = (push16 .exec v s).out) (hW : storesOf i s = s.pushAddrs 0)
    (hi : i.isString = false := by rfl) : Does i s := .of_stays hexec (push16_stays (hW ▸ List.Subset.refl _) .exec v) hi

/-- An instruction whose operand may be written. -/
theorem Does.of_moveTo {w : Nat} {dst : Place w} {src : Src w} (hexec : exec i s = (moveTo dst src s).out)
    (hW : dst.addrs ⊆ storesOf i s) (hi : i.isString = false := by rfl) : Does i s :=
  .of_stays hexec (moveTo_stays src hW) hi

theorem Does.of_refuse {m : String} (hexec : exec i s = .next (s.refuse m)) : Does i s :=
  .of_fault hexec .update rfl

end

theorem exec_does (i : Instr) (s : State) : Does i s := by
  have hsub (l : List Addr) : l ⊆ l := List.Subset.refl l
  cases i with
  -- Prefixes
  | segEs | segCs | segSs | segDs | lock | repne | rep => exact .of_kept rfl (Within.kept (.update (pfx := .inr rfl)))
  | lockF1 => exact .of_undocumented rfl fun he => .of_kept he (Within.kept (.update (pfx := .inr rfl)))
  -- Data transfer
  | mov f => cases f <;> exact .of_moveTo rfl (hsub _)
  | movEbIb | movEvIv | movAlIb | movClIb | movDlIb | movBlIb | movAhIb | movChIb | movDhIb | movBhIb | movAxIv | movCxIv
  | movDxIv | movBxIv | movSpIv | movBpIv | movSiIv | movDiIv | xlat => exact .of_moveTo rfl (hsub _)
  | movEbIbAlias1 | movEbIbAlias2 | movEbIbAlias3 | movEbIbAlias4 | movEbIbAlias5 | movEbIbAlias6 | movEbIbAlias7
  | movEvIvAlias1 | movEvIvAlias2 | movEvIvAlias3 | movEvIvAlias4 | movEvIvAlias5 | movEvIvAlias6 | movEvIvAlias7 =>
    exact .of_undocumented rfl fun he => .of_moveTo he (hsub _)
  | movEwSw e r => exact .of_stays rfl (Place.write_stays (hsub _) _ s)
  | movEwSwAlias e r => exact .of_undocumented rfl fun he => .of_stays he (Place.write_stays (hsub _) _ s)
  | movEsEw e | movSsEw e | movDsEw e => exact .of_stays rfl (movToSeg_stays (by decide) e)
  | movCsEw e => exact .of_undocumented rfl fun he => .of_flushes he (movToCs_flushes rfl e)
  | movSwEwAlias r e =>
    refine .of_undocumented rfl fun he => ?_
    cases r with
    | cs => exact .of_flushes he (movToCs_flushes rfl e)
    | es | ss | ds => exact .of_stays he (movToSeg_stays (by decide) e)
  | pushAx | pushCx | pushDx | pushBx | pushSp | pushBp | pushSi | pushDi => exact .of_pushReg rfl rfl
  | pushEs | pushCs | pushSs | pushDs | pushf => exact .of_push16 rfl rfl
  | pushEv e => exact .of_stays rfl (pushRm_stays e (hsub _))
  | pushEvAlias e => exact .of_undocumented rfl fun he => .of_stays he (pushRm_stays e (hsub _))
  | popAx | popCx | popDx | popBx | popSp | popBp | popSi | popDi => exact .of_stays rfl (popReg_stays _)
  | popEs | popSs | popDs => exact .of_stays rfl (popSeg_stays (.inl (by decide)))
  | popCs =>
    exact .of_undocumented rfl fun he =>
      .of_flushes he ((popSeg_stays (.inr rfl)).moves.bind_flushes fun _ _ => .ok .update)
  | popEv e => exact .of_stays rfl (popRm_stays e (hsub _))
  | popEvAlias1 e | popEvAlias2 e | popEvAlias3 e | popEvAlias4 e | popEvAlias5 e | popEvAlias6 e | popEvAlias7 e =>
    exact .of_undocumented rfl fun he => .of_stays he (popRm_stays e (hsub _))
  | popf =>
    exact .of_stays rfl (pop16_stays.andThen fun _ _ => Within.kept (.update (tf := .inr (.inl rfl))
      (ifl := .inr (by simp)) (df := .inr (by simp))))
  | xchg f => cases f <;> exact .of_stays rfl (exchange_stays (hsub _) (List.nil_subset _))
  | xchgAxCx | xchgAxDx | xchgAxBx | xchgAxSp | xchgAxBp | xchgAxSi | xchgAxDi =>
    exact .of_stays rfl (exchange_stays (hsub _) (hsub _))
  | inp f =>
    cases f with
    | immB | dxB => exact .of_stays rfl ((ioRead8_stays rfl _).andThen fun _ _ => .setReg8 .al _)
    | immW | dxW => exact .of_stays rfl ((ioRead16_stays rfl _).andThen fun _ _ => .setReg16 .ax _)
  | outp f =>
    cases f with
    | immB | dxB => exact .of_stays rfl (ioWrite8_stays rfl _ _)
    | immW | dxW => exact .of_stays rfl (ioWrite16_stays rfl _ _)
  | lea g m => exact .of_kept rfl (.setReg16 g _)
  | les g m | lds g m =>
    exact .of_stays rfl (((loadFar_stores m).stays _).andThen fun p _ =>
      (Kept.setReg16 g p.1).trans (.setSeg (.inl (by decide)) p.2))
  | lahf => exact .of_kept rfl (.setReg8 .ah _)
  | sahf => exact .of_kept rfl (.setFlags ⟨rfl, rfl, rfl⟩)
  -- Arithmetic and logic
  | add f | adc f | sub f | sbb f | and f | or f | xor f => exact .of_stays rfl (alu_stays fun _ => hsub _)
  | cmp f => exact .of_stays rfl (alu_stays fun hk => absurd rfl hk)
  | orAlias82 | andAlias82 | xorAlias82 | orAlias83 | andAlias83 | xorAlias83 =>
    exact .of_undocumented rfl fun he => .of_stays he (alu_stays fun _ => hsub _)
  | incAx | incCx | incDx | incBx | incSp | incBp | incSi | incDi | incEb | incEv =>
    exact .of_stays rfl (incOn_stays (hsub _))
  | decAx | decCx | decDx | decBx | decSp | decBp | decSi | decDi | decEb | decEv =>
    exact .of_stays rfl (decOn_stays (hsub _))
  | neg f => cases f <;> exact .of_stays rfl (negOn_stays (hsub _))
  | not f => cases f <;> exact .of_stays rfl (notOn_stays (hsub _))
  | test f => cases f <;> exact .of_stays rfl (testOn_stays _ _)
  | testAlias f => cases f <;> exact .of_undocumented rfl fun he => .of_stays he (testOn_stays _ _)
  | rol f | ror f | rcl f | rcr f | shl f | shr f | sar f => exact .of_stays rfl (shift_stays (hsub _))
  | mul f | imul f =>
    cases f with
    | b e => exact .of_stays rfl (Place.read_andThen_stays _ fun _ _ => (Kept.setReg16 _ _).trans (.mulFlagged _))
    | w e =>
      exact .of_stays rfl (Place.read_andThen_stays _ fun _ _ =>
        ((Kept.setReg16 _ _).trans (.setReg16 _ _)).trans (.mulFlagged _))
  | div f | idiv f =>
    cases f <;>
    · refine .of_stays rfl (Place.read_andThen_stays _ fun v t => ?_)
      split
      · exact .trans (Within.kept .update) .statusDrawn
      · exact Kept.statusDrawn.trans (Within.kept (.update (internalReq := .inr (by simp))))
  | daa | das => exact .of_kept rfl (.decimalAdjusted _ _)
  | aaa | aas => exact .of_kept rfl (.asciiAdjusted _)
  | aam b =>
    by_cases hb : b = 0
    · exact .of_kept (if_pos hb) (Kept.statusDrawn.trans (Within.kept (.update (internalReq := .inr (by simp)))))
    · exact .of_kept (if_neg hb) (.radixAdjusted _ _)
  | aad b => exact .of_kept rfl (.radixAdjusted _ _)
  | cbw => exact .of_kept rfl (.setReg8 .ah _)
  | cwd => exact .of_kept rfl (.setReg16 .dx _)
  | salc => exact .of_undocumented rfl fun he => .of_kept he (.setReg8 .al _)
  | setmo f => cases f <;> exact .of_undocumented rfl fun he => .of_stays he (setOnes_stays (hsub _))
  | setmoc f =>
    cases f <;>
    · refine .of_undocumented rfl fun he => .of_stays he ?_
      split
      · exact .ok () (.refl _ _ s)
      · exact setOnes_stays (hsub _)
  -- Strings
  | movsb | movsw | cmpsb | cmpsw | stosb | stosw | lodsb | lodsw | scasb | scasw => exact .of_string s rfl
  -- Control transfer
  | jo | jno | jb | jae | je | jne | jbe | ja | js | jns | jp | jnp | jl | jge | jle | jg | jcxz | jmpShort =>
    exact .of_branch rfl (.refl _ _ s)
  | joAlias | jnoAlias | jbAlias | jaeAlias | jeAlias | jneAlias | jbeAlias | jaAlias | jsAlias | jnsAlias | jpAlias
  | jnpAlias | jlAlias | jgeAlias | jleAlias | jgAlias => exact .of_branchAlias rfl
  | loop | loope | loopne => exact .of_branch rfl (.setReg16 .cx _)
  | jmp rel => exact .of_flush rfl .update
  | jmpFar off seg => exact .of_flush rfl (.update (cs := .inr rfl))
  | jmpEv e =>
    exact .of_flushes rfl ((((place16 e s).read_stores s).stays _).moves.bind_flushes fun _ _ => .ok .update)
  | jmpFarMp m =>
    exact .of_flushes rfl (((loadFar_stores m).stays _).moves.bind_flushes fun _ _ => .ok (.update (cs := .inr rfl)))
  | call rel => exact .of_flushes rfl ((push16_stays (hsub _) .exec _).moves.bind_flushes fun _ _ => .ok .update)
  | callFar off seg => exact .of_flushes rfl (callFarTo_flushes rfl (hsub _) off seg)
  | callEv e =>
    exact .of_flushes rfl (((place16 e s).read_stores s).bind_flushes fun _ t ht =>
      (push16_stays (ht.pushAddrs 0 ▸ hsub _) .exec _).moves.bind_flushes fun _ _ => .ok .update)
  | callFarMp m =>
    refine .of_flushes rfl ((loadFar_stores m).bind_flushes fun p t ht => callFarTo_flushes rfl ?_ p.1 p.2)
    rw [ht.pushAddrs, ht.pushAddrs]
    exact hsub _
  | ret | retIw => exact .of_flushes rfl (retNear_flushes _)
  | retf | retfIw => exact .of_flushes rfl (retFar_flushes rfl _)
  | retAlias | retIwAlias => exact .of_undocumented rfl fun he => .of_flushes he (retNear_flushes _)
  | retfAlias | retfIwAlias => exact .of_undocumented rfl fun he => .of_flushes he (retFar_flushes rfl _)
  -- Interrupts and processor control
  | iret => exact .of_flushes rfl intReturn_flushes
  | int n => exact .of_kept rfl (Within.kept (.update (internalReq := .inr (by simp))))
  | int3 => exact .of_kept rfl (Within.kept (.update (internalReq := .inr (by simp))))
  | into =>
    have hexec := exec_into s
    split at hexec
    · exact .of_kept hexec (Within.kept (.update (internalReq := .inr (by simp))))
    · exact .of_kept hexec (.refl _ _ s)
  | clc | stc | cmc => exact .of_kept rfl (.setFlags ⟨rfl, rfl, rfl⟩)
  | cld | std => exact .of_kept rfl (Within.kept (.update (df := .inr (by simp))))
  | cli | sti => exact .of_kept rfl (Within.kept (.update (ifl := .inr (by simp))))
  | hlt => exact .of_kept rfl (Within.kept (.update (halted := .inr rfl)))
  | wait =>
    have hexec := exec_wait s
    split at hexec
    · exact .of_kept hexec (.refl _ _ s)
    · exact .of_flush hexec .update
  | nop | esc => exact .of_kept rfl (.refl _ _ s)
  -- Refused under both settings
  | fe2 | fe3 | fe4 | fe5 | fe6 | fe7 | leaReg | lesReg | ldsReg | callFarReg | jmpFarReg => exact .of_refuse rfl
  | repMulDiv o f => cases f <;> exact .of_refuse rfl

/-- Every instruction has a meaning, which answers a next state (60_exceptions.md R201). -/
theorem exec_next (i : Instr) (s : State) : ∃ t, exec i s = .next t :=
  let ⟨t, hexec, _⟩ := exec_does i s
  ⟨t, hexec⟩

theorem exec_within {i : Instr} {s t : State} (hexec : exec i s = .next t) : Within i (storesOf i s) s t := by
  obtain ⟨u, hu, hw, -⟩ := exec_does i s
  obtain rfl : u = t := by simpa [hu] using hexec
  exact hw

theorem exec_lands {i : Instr} {s t : State} (hexec : exec i s = .next t) : Lands i s t := by
  obtain ⟨u, hu, -, hl⟩ := exec_does i s
  obtain rfl : u = t := by simpa [hu] using hexec
  exact hl

/-! ## The obligations -/

/-- Settles O19: memory is one of the fields an instruction keeps within its rights. -/
theorem memoryFrame : Obligations.MemoryFrame := fun _ _ _ hexec => (exec_within hexec).outside

/-- Settles O20: the operations of every instruction but IN and OUT make no port transaction. -/
theorem portsOnlyByInOut : Obligations.PortsOnlyByInOut := fun _ _ _ hexec hports =>
  (exec_within hexec).ports.resolve_left (by simp [hports])

/-- Settles O21: the writers of the control flags and of CS. -/
theorem controlWriters : Obligations.ControlWriters := fun _ _ _ hexec =>
  have h := exec_within hexec
  ⟨h.tf.resolve_left, h.ifl.resolve_left, h.df.resolve_left, h.cs.resolve_left⟩

/-- Settles O22: the pending requests, the inputs, and the writers of the other control state. -/
theorem controlStateFrame : Obligations.ControlStateFrame := fun _ _ _ hexec =>
  have h := exec_within hexec
  ⟨h.requests.1, h.requests.2.1, h.requests.2.2, h.inputs.1, h.inputs.2.1, h.inputs.2.2, h.halted.resolve_left,
    h.rep.resolve_left, h.internalReq.resolve_left⟩

end Sys2Proof.Machine
end

section
/-! SUPPORT. The interrupt entry and the service chain on any bus: what they record, what they leave alone and where they
leave the queue and the repetition; and what is left to take after them. Then the proofs of the obligations on the service
chain, the single-step trap and the halted core (60_exceptions.md R207, R210, R217). -/

namespace Sys2Proof.Machine

/-! ## The interrupt entry (60_exceptions.md R212) -/

/-- As far as an entry has come before it writes IP and CS: only memory, SP, the flags and the BIU's fields have changed. -/
structure Entering (s t : State) : Prop where
  frame : ({ t with gpr := s.gpr, flags := s.flags, mem := s.mem } : State).withBiu s = s
  recorded : Recorded s t

/-- An entry has been made: the queue is flushed, no repetition is in progress, the core is not halted. -/
structure Entered (s t : State) : Prop where
  frame : ({ t with
    gpr := s.gpr, sreg := s.sreg, ip := s.ip, flags := s.flags, mem := s.mem, rep := s.rep, halted := s.halted
    } : State).withBiu s = s
  recorded : Recorded s t
  queue : t.queue = []
  fetchIp : t.fetchIp = t.ip
  rep : t.rep = none
  halted : t.halted = false

theorem Entering.trans {s t u : State} (h : Entering s t) (g : Entering t u) : Entering s u :=
  ⟨(congrArg (fun x : State => ({ x with gpr := s.gpr, flags := s.flags, mem := s.mem } : State).withBiu s) g.frame).trans
    h.frame, h.recorded.trans g.recorded⟩

theorem Stored.entering {W : List Addr} {s t : State} (h : Stored W s t) : Entering s t :=
  ⟨by rw [h.frame]; rfl, h.recorded⟩

/-- `r` starts in `s` and is a part of an entry. -/
def Res.Enters {α : Type} (r : Res α) (s : State) : Prop :=
  r.Post (fun _ t => Entering s t) fun t => ∃ u, t = u.busFault ∧ Entering s u

theorem Res.Stores.enters {α : Type} {W : List Addr} {s t : State} {r : Res α} (h : r.Stores W t) (ht : Entering s t) :
    r.Enters s :=
  h.mono (fun _ _ ⟨hu, _⟩ => ht.trans hu.entering) fun _ ⟨u, e, hu⟩ => ⟨u, e, ht.trans hu.entering⟩

theorem push16_enters (ph : Phase) (v : Word) {s t : State} (ht : Entering s t) : (push16 ph v t).Enters s :=
  (push16_stores (List.Subset.refl _) ph v).enters (ht.trans ⟨rfl, .of_same rfl rfl⟩)

theorem load16_enters (ph : Phase) (seg off : Word) {s t : State} (ht : Entering s t) : (load16 ph seg off t).Enters s :=
  (load16_stores (W := []) ph seg off t).enters ht

theorem intEntry_post (v : Byte) (s : State) :
    (intEntry v s).Post (fun _ t => Entered s t) fun t => ∃ u, t = u.busFault ∧ Entering s u := by
  refine (push16_enters .entry _ ⟨rfl, .of_same rfl rfl⟩).bind fun _ s1 h1 => ?_
  refine (push16_enters .entry _ h1).bind fun _ s2 h2 => ?_
  refine (push16_enters .entry _ h2).bind fun _ s3 h3 => ?_
  have h4 (f : Flags) : Entering s (s3.setFlags f) := h3.trans ⟨rfl, .of_same rfl rfl⟩
  refine (load16_enters .entry _ _ (h4 _)).bind fun newIp s5 h5 => ?_
  refine (load16_enters .entry _ _ h5).bind fun newCs s6 h6 => ?_
  refine ⟨?_, h6.recorded.trans (.of_same rfl rfl), rfl, rfl, rfl, rfl⟩
  exact congrArg (fun x : State => { x with sreg := s.sreg, ip := s.ip, rep := s.rep, halted := s.halted }) h6.frame

/-! ## The service chain (60_exceptions.md R210) -/

/-- From `s` the chain has come to `t`: nothing but requests, and what entries change, has changed, and the queue is where it
was or flushed. -/
structure Served (s t : State) : Prop where
  recorded : Recorded s t
  inhibit : t.inhibit = s.inhibit
  pfx : t.pfx = s.pfx
  fault : t.fault = s.fault
  rejects : t.rejects = s.rejects
  place : (t.queue = s.queue ∧ t.fetchIp = s.fetchIp ∧ t.ip = s.ip ∧ t.rep = s.rep ∧ t.halted = s.halted)
    ∨ (t.queue = [] ∧ t.fetchIp = t.ip ∧ t.rep = none ∧ t.halted = false)

/-- From `s` an entry of the chain was stopped by the bus fault. -/
structure ServiceFault (s t : State) : Prop where
  recorded : Recorded s t
  pfx : t.pfx = s.pfx
  fault : t.fault.isSome = true
  repOk : s.repOk = true → t.repOk = true

theorem Served.refl (s : State) : Served s s :=
  ⟨.of_same rfl rfl, rfl, rfl, rfl, rfl, .inl ⟨rfl, rfl, rfl, rfl, rfl⟩⟩

theorem Served.trans {s t u : State} (h : Served s t) (g : Served t u) : Served s u := by
  refine ⟨h.recorded.trans g.recorded, g.inhibit.trans h.inhibit, g.pfx.trans h.pfx, g.fault.trans h.fault,
    g.rejects.trans h.rejects, ?_⟩
  rcases g.place with ⟨hq, hf, hip, hrep, hhalt⟩ | hflushed
  · rw [hq, hf, hip, hrep, hhalt]
    exact h.place
  · exact .inr hflushed

/-- The queue is in step with the decode position after the chain, if it was before. -/
theorem Served.inStep {s t : State} (h : Served s t) (hs : InStep s) : InStep t := by
  rcases h.place with ⟨hq, hf, hip, hrep, -⟩ | ⟨hq, hf, hrep, -⟩
  · exact hs.of_cursor (.of_same hq hf) (by rw [State.decodePos, State.decodePos, hip, hrep])
  · refine ⟨by simp [hq], ?_⟩
    simp [State.decodePos, hrep, hf, hq]

theorem Served.repOk {s t : State} (h : Served s t) (hs : s.repOk = true) : t.repOk = true := by
  rcases h.place with ⟨-, -, hip, hrep, -⟩ | ⟨-, -, hrep, -⟩
  · rwa [State.repOk_of_same hrep hip]
  · exact State.repOk_of_none hrep

/-- The request taken is removed, and its entry made. -/
theorem Served.of_entry {s t u : State} {v : Byte} (htake : takeRequest s = some (v, t)) (h : Entered t u) :
    Served s u ∧ u.pending + 1 = s.pending := by
  obtain ⟨hpending, ht⟩ := takeRequest_some htake
  have hkept : t.inhibit = s.inhibit ∧ t.pfx = s.pfx ∧ t.fault = s.fault ∧ t.rejects = s.rejects ∧ t.mem = s.mem
      ∧ t.busLog = s.busLog := by
    rw [ht]
    exact ⟨rfl, rfl, rfl, rfl, rfl, rfl⟩
  obtain ⟨hinhibit, hpfx, hfault, hrejects, hmem, hlog⟩ := hkept
  refine ⟨⟨(Recorded.of_same hmem hlog).trans h.recorded, (congrArg State.inhibit h.frame).trans hinhibit,
    (congrArg State.pfx h.frame).trans hpfx, (congrArg State.fault h.frame).trans hfault,
    (congrArg State.rejects h.frame).trans hrejects, .inr ⟨h.queue, h.fetchIp, h.rep, h.halted⟩⟩, ?_⟩
  exact (congrArg (fun x : State => x.pending + 1) h.frame).trans hpending.symm

theorem ServiceFault.of_entering {s t u : State} {v : Byte} (htake : takeRequest s = some (v, t)) (h : Entering t u) :
    ServiceFault s u.busFault := by
  obtain ⟨-, ht⟩ := takeRequest_some htake
  have hkept : t.pfx = s.pfx ∧ t.rep = s.rep ∧ t.ip = s.ip ∧ t.mem = s.mem ∧ t.busLog = s.busLog := by
    rw [ht]
    exact ⟨rfl, rfl, rfl, rfl, rfl⟩
  obtain ⟨hpfx, hrep, hip, hmem, hlog⟩ := hkept
  refine ⟨((Recorded.of_same hmem hlog).trans h.recorded).trans (.of_same rfl rfl),
    (congrArg State.pfx h.frame).trans hpfx, rfl, fun hs => ?_⟩
  have hrep' : u.busFault.rep = s.rep := (congrArg State.rep h.frame).trans hrep
  have hip' : u.busFault.ip = s.ip := (congrArg State.ip h.frame).trans hip
  rwa [State.repOk_of_same hrep' hip']

/-- Where no request is pending, none is taken. -/
theorem takeRequest_of_pending_zero {s : State} (h : s.pending = 0) : takeRequest s = none := by
  cases htake : takeRequest s with
  | none => rfl
  | some p =>
    obtain ⟨hpending, -⟩ := takeRequest_some (v := p.1) (t := p.2) htake
    omega

/-- As many passes as requests are pending leave nothing that may be taken. -/
theorem serviceLoop_post (n : Nat) (s : State) (hn : s.pending ≤ n) :
    (serviceLoop n s).Post (fun _ t => Served s t ∧ takeRequest t = none) (ServiceFault s) := by
  induction n generalizing s with
  | zero => exact ⟨.refl s, takeRequest_of_pending_zero (by omega)⟩
  | succ n ih =>
    rw [serviceLoop]
    split
    next v t htake =>
      cases hentry : intEntry v t with
      | stop u =>
        obtain ⟨u, rfl, hu⟩ : ∃ u', u = u'.busFault ∧ Entering t u' := by
          have := intEntry_post v t
          rwa [hentry] at this
        exact .of_entering htake hu
      | ok _ u =>
        obtain ⟨hs, hpending⟩ := Served.of_entry htake ((intEntry_post v t).of_ok hentry)
        refine (ih u (by omega)).mono (fun _ _ ⟨ht, hrest⟩ => ⟨hs.trans ht, hrest⟩) fun _ ht => ?_
        exact ⟨hs.recorded.trans ht.recorded, ht.pfx.trans hs.pfx, ht.fault, fun h => ht.repOk (hs.repOk h)⟩
    next hnone => exact ⟨.refl s, hnone⟩

/-- Where nothing may be taken, no internal request is pending. -/
theorem internalReq_of_takeRequest {s : State} (h : takeRequest s = none) : s.internalReq = none := by
  cases hreq : s.internalReq with
  | none => rfl
  | some v => rw [takeRequest_internal hreq] at h; cases h

/-- How the chain ends. -/
structure ChainEnd (s t : State) : Prop where
  served : Served s { t with inhibit := s.inhibit }
  inhibit : t.inhibit = false
  internalReq : t.internalReq = none
  rest : s.inhibit = false → takeRequest t = none

theorem serviceChain_post (s : State) : (serviceChain s).Post (fun _ t => ChainEnd s t) (ServiceFault s) := by
  refine (serviceLoop_post s.pending s (le_refl _)).bind fun _ t ⟨hs, hrest⟩ => ?_
  refine ⟨?_, rfl, internalReq_of_takeRequest (s := t) hrest, fun hinhibit => ?_⟩
  · rw [← hs.inhibit]
    exact hs
  · have hsame : ({ t with inhibit := false } : State) = t := by rw [← hinhibit, ← hs.inhibit]
    exact (congrArg takeRequest hsame).trans hrest

/-! ## On an accepting bus -/

theorem serviceLoop_ok (n : Nat) {s : State} (h : s.accepts) : ∃ t, serviceLoop n s = .ok () t := by
  induction n generalizing s with
  | zero => exact ⟨s, rfl⟩
  | succ n ih =>
    rw [serviceLoop]
    split
    next v t htake =>
      obtain ⟨-, ht⟩ := takeRequest_some htake
      obtain ⟨_, u, hentry, -⟩ := (intEntry_answers v (State.accepts_of_eq (t := t) h (by rw [ht]))).exists_ok
      obtain ⟨hs, -⟩ := Served.of_entry htake ((intEntry_post v t).of_ok hentry)
      rw [hentry]
      exact ih (State.accepts_of_eq h hs.rejects)
    next => exact ⟨s, rfl⟩

theorem serviceChain_ok {s : State} (h : s.accepts) : ∃ t, serviceChain s = .ok () t ∧ ChainEnd s t := by
  obtain ⟨t, ht⟩ := serviceLoop_ok s.pending h
  have hchain : serviceChain s = .ok () { t with inhibit := false } := by rw [serviceChain, ht]; rfl
  exact ⟨_, hchain, (serviceChain_post s).of_ok hchain⟩

/-- Where nothing may be taken the chain only clears `inhibit`. -/
theorem serviceChain_of_none {s : State} (h : takeRequest s = none) :
    serviceChain s = .ok () { s with inhibit := false } := by
  rw [serviceChain, serviceLoop_of_none _ h]
  rfl

/-- The chain takes what the priority order gives, and goes on after its entry. -/
theorem serviceChain_of_take {s t u : State} {v : Byte} (htake : takeRequest s = some (v, t))
    (hentry : intEntry v t = .ok () u) : serviceChain s = serviceChain u := by
  obtain ⟨-, hpending⟩ := Served.of_entry htake ((intEntry_post v t).of_ok hentry)
  rw [serviceChain, ← hpending, serviceLoop, htake]
  simp only [hentry, Res.bind]
  rfl

/-! ## Boundaries and the halted core -/

/-- With no request of a higher rank the latch decides. -/
theorem takeRequest_latch {s : State} (hreq : s.internalReq = none) (hinhibit : s.inhibit = false) (hnmi : s.nmiQ = [])
    (hmask : s.flags.ifl = false ∨ s.intrQ = []) :
    takeRequest s = if s.ssLatch then some (1, { s with ssLatch := false }) else none := by
  rcases hmask with hif | hintr
  · simp [takeRequest, hreq, hinhibit, hnmi, hif]
  · cases hif : s.flags.ifl <;> simp [takeRequest, hreq, hinhibit, hnmi, hif, hintr]

theorem takeRequest_inhibited {s : State} (hreq : s.internalReq = none) (hinhibit : s.inhibit = true) :
    takeRequest s = none := by
  simp [takeRequest, hreq, hinhibit]

/-- The boundary of a unit without a failure that began with TF = 1. -/
theorem boundary_true {t : State} (hfault : t.fault = none) :
    boundary true t = (serviceChain { t with ssLatch := true, pfx := Prefixes.none }).state := by
  simp [boundary, hfault]

theorem step_of_halted {s : State} (hfault : s.fault = none) (hhalted : s.halted = true) :
    step s = .next (if s.wakes then (serviceChain s).state else s) := by
  simp [step, stepState, hfault, stepRunning, hhalted]

theorem State.wakes_iff (s : State) : s.wakes = true ↔ s.nmiQ ≠ [] ∨ (s.flags.ifl = true ∧ s.intrQ ≠ []) := by
  simp [State.wakes]

/-- A request that wakes the core is taken, or one of a higher rank, unless `inhibit` holds all but an internal one back. -/
theorem takeRequest_of_wakes {s : State} (hwakes : s.wakes = true)
    (hopen : s.inhibit = false ∨ s.internalReq ≠ none) : ∃ v t, takeRequest s = some (v, t) := by
  cases hreq : s.internalReq with
  | some v => exact ⟨v, _, takeRequest_internal hreq⟩
  | none =>
    have hinhibit : s.inhibit = false := hopen.resolve_right (absurd hreq)
    cases hnmi : s.nmiQ with
    | cons v q => exact ⟨v, { s with nmiQ := q }, by simp [takeRequest, hreq, hinhibit, hnmi]⟩
    | nil =>
      obtain ⟨hif, hintr⟩ := (s.wakes_iff.1 hwakes).resolve_left (absurd hnmi)
      obtain ⟨v, q, hq⟩ := List.exists_cons_of_ne_nil hintr
      exact ⟨v, { s with intrQ := q }, by simp [takeRequest, hreq, hinhibit, hnmi, hif, hq]⟩

/-- Once an entry has been made the core runs, whatever the chain takes after it. -/
theorem ChainEnd.halted {s t : State} (h : ChainEnd s t) (hs : s.halted = false) : t.halted = false := by
  rcases h.served.place with ⟨-, -, -, -, hsame⟩ | ⟨-, -, -, hclear⟩
  · exact hsame.trans hs
  · exact hclear

theorem serviceChain_halted {s : State} (h : s.accepts) (hs : s.halted = false) :
    (serviceChain s).state.halted = false := by
  obtain ⟨t, ht, hend⟩ := serviceChain_ok h
  rw [ht]
  exact hend.halted hs

/-! ## The obligations -/

/-- Settles O23: the order of the cases is the priority order. -/
theorem servicePriority : Obligations.ServicePriority := fun s =>
  ⟨fun _ => takeRequest_internal, takeRequest_inhibited, fun hreq hinhibit =>
    ⟨fun v q hnmi => by simp [takeRequest, hreq, hinhibit, hnmi],
      fun hnmi hif v q hintr => by simp [takeRequest, hreq, hinhibit, hnmi, hif, hintr],
      takeRequest_latch hreq hinhibit⟩⟩

/-- Settles O24: as many passes as requests are pending leave nothing to take. -/
theorem serviceChainDrains : Obligations.ServiceChainDrains := fun _ h =>
  let ⟨t, ht, hend⟩ := serviceChain_ok h
  ⟨t, ht, hend.inhibit, hend.internalReq, hend.rest⟩

/-- Settles O27: the latch is the last rank, and the entry for it clears IF and leaves nothing to take. -/
theorem singleStepTrap : Obligations.SingleStepTrap := by
  intro t hfault hbus hreq hnmi hmask
  refine ⟨fun hinhibit => ?trap, fun hinhibit => ?deferred, fun hinhibit hlatch => ?untraced⟩
  case trap =>
    obtain ⟨_, u, hentry, b, hu⟩ := (intEntry_answers (s := { t with ssLatch := false, pfx := Prefixes.none }) 1
      (State.accepts_of_eq hbus rfl)).exists_ok
    have hrest : takeRequest u = none := by
      subst hu
      exact takeRequest_eq_none hreq hnmi rfl rfl
    have htake := takeRequest_latch (s := { t with ssLatch := true, pfx := Prefixes.none }) hreq hinhibit hnmi hmask
    exact ⟨u, hentry, by rw [boundary_true hfault, serviceChain_of_one htake hentry hrest]; rfl⟩
  case deferred =>
    have hnone : takeRequest { t with ssLatch := true, pfx := Prefixes.none } = none :=
      takeRequest_inhibited hreq hinhibit
    rw [boundary_true hfault, serviceChain_of_none hnone]
    rfl
  case untraced =>
    have hnone : takeRequest { t with pfx := Prefixes.none } = none :=
      (takeRequest_latch (s := { t with pfx := Prefixes.none }) hreq hinhibit hnmi hmask).trans (if_neg (by simp [hlatch]))
    rw [boundary_false hfault, serviceChain_of_none hnone, ← hinhibit]
    rfl

/-- Settles O14: the chain begins with the request the priority order gives, and an entry ends the halted state. -/
theorem haltedCore : Obligations.HaltedCore := by
  intro s hfault hhalted
  have hstep := step_of_halted hfault hhalted
  refine ⟨fun hnmi hmask => ?idle, fun hwakes => ?wakes⟩
  case idle =>
    rw [hstep, if_neg]
    rw [s.wakes_iff, hnmi]
    rintro (hne | ⟨hif, hintr⟩)
    · exact hne rfl
    · exact hmask.elim (by simp [hif]) hintr
  case wakes =>
    rw [← s.wakes_iff] at hwakes
    rw [hstep, if_pos hwakes]
    refine ⟨fun hbus hopen => ?_, fun hinhibit hreq => ?_⟩
    · obtain ⟨v, u, htake⟩ := takeRequest_of_wakes hwakes hopen
      obtain ⟨-, hu⟩ := takeRequest_some htake
      obtain ⟨_, t, hentry, -⟩ := (intEntry_answers v (State.accepts_of_eq (t := u) hbus (by rw [hu]))).exists_ok
      have hent : Entered u t := (intEntry_post v u).of_ok hentry
      obtain ⟨hserved, -⟩ := Served.of_entry htake hent
      exact ⟨v, u, t, htake, hentry, by rw [serviceChain_of_take htake hentry],
        serviceChain_halted (State.accepts_of_eq hbus hserved.rejects) hent.halted⟩
    · rw [serviceChain_of_none (takeRequest_inhibited hreq hinhibit)]
      rfl

end Sys2Proof.Machine
end

section
/-! SUPPORT. Consuming the bytes of a unit on any bus, the scan through the bytes that stand in front of an instruction, and
the unit on an accepting bus. Then the proofs of the obligations on stores, fill points, the scan and what a step runs. -/

namespace Sys2Proof.Machine

/-! ## Scanning (30_encoding.md R71) -/

/-- A byte of R63 is an encoding of its own, in every context. -/
theorem decode_of_isPrefix {p : Instr} (hp : p.isPrefix = true) :
    ∃ b, encode p = [b] ∧ ∀ rep bs, decode rep (b :: bs) = .ok (p, bs) := by
  simp only [Instr.isPrefix, Bool.or_eq_true, decide_eq_true_eq] at hp
  rcases hp with ((((((rfl | rfl) | rfl) | rfl) | rfl) | rfl) | rfl) | rfl <;> exact ⟨_, rfl, fun _ _ => rfl⟩

/-- The byte at the front of the window, and five after it. -/
theorem State.window_eq_cons (s : State) (off : Nat) :
    s.window off = s.peek off :: (List.range 5).map fun i => s.peek (off + (i + 1)) := by
  simp [State.window, maxInstrBytes, List.range_succ_eq_map]

theorem scanFrom_found {s : State} {i : Instr} {rest : List Byte} (hi : i.isPrefix = false) {ps : List Instr} :
    ∀ {fuel off : Nat} {rep : Bool}, ps.length < fuel → (∀ p ∈ ps, p.isPrefix = true) →
      (List.range ps.length).map (fun k => s.peek (off + k)) = ps.flatMap encode →
      decode (rep || ps.any Instr.isRepPrefix) (s.window (off + ps.length)) = .ok (i, rest) →
      scanFrom s fuel off rep = some ⟨ps, i, off + ps.length + (maxInstrBytes - rest.length)⟩ := by
  induction ps with
  | nil =>
    intro fuel off rep hfuel _ _ hdec
    obtain ⟨n, rfl⟩ : ∃ n, fuel = n + 1 := ⟨fuel - 1, by simp at hfuel; omega⟩
    have hdec' : decode rep (s.window off) = .ok (i, rest) := by simpa using hdec
    simp [scanFrom, hdec', hi]
  | cons p ps ih =>
    intro fuel off rep hfuel hps hbytes hdec
    obtain ⟨n, rfl⟩ : ∃ n, fuel = n + 1 := ⟨fuel - 1, by simp at hfuel; omega⟩
    have hp := hps p List.mem_cons_self
    obtain ⟨b, hb, hdecode⟩ := decode_of_isPrefix hp
    rw [List.length_cons, List.range_succ_eq_map, List.map_cons, List.flatMap_cons, hb, List.map_map,
      List.singleton_append, List.cons.injEq, Nat.add_zero] at hbytes
    obtain ⟨hfirst, hrest⟩ := hbytes
    have hnext : off + 1 + ps.length = off + (ps.length + 1) := by omega
    have hscan := ih (fuel := n) (off := off + 1) (rep := rep || p.isRepPrefix) (by simpa using hfuel)
      (fun q hq => hps q (List.mem_cons_of_mem _ hq)) (by simpa [Function.comp_def, Nat.add_assoc, Nat.add_comm 1] using hrest)
      (by rw [hnext, Bool.or_assoc, ← List.any_cons]; exact hdec)
    rw [scanFrom, s.window_eq_cons, hfirst, hdecode]
    simp only [List.length_map, List.length_range, hp, if_true]
    rw [show maxInstrBytes - 5 = 1 from rfl, hscan, hnext]
    rfl

/-- The scan finds only bytes of R63 in front of the instruction, and the instruction is none. -/
theorem scanFrom_prefixes {s : State} : ∀ {fuel off : Nat} {rep : Bool} {c : Scan}, scanFrom s fuel off rep = some c →
    (∀ p ∈ c.prefixes, p.isPrefix = true) ∧ c.ins.isPrefix = false := by
  intro fuel
  induction fuel with
  | zero => intro off rep c h; cases h
  | succ n ih =>
    intro off rep c h
    rw [scanFrom] at h
    split at h
    next => cases h
    next i rest hdec =>
      simp only at h
      split at h
      next hi =>
        split at h
        next r hr =>
          obtain ⟨hprefixes, hins⟩ := ih hr
          obtain rfl := Option.some.inj h
          exact ⟨List.forall_mem_cons.2 ⟨hi, hprefixes⟩, hins⟩
        next => cases h
      next hi =>
        obtain rfl := Option.some.inj h
        exact ⟨by simp, by simpa using hi⟩

/-! ## The obligations -/

/-- Settles O10: one pass of the scan for each byte of R63, then the instruction. -/
theorem prefixesScanned : Obligations.PrefixesScanned := by
  intro s ps i rest hlen hps hbytes hdec hi
  have hscan := scanFrom_found (s := s) hi (off := 0) (rep := false) (Nat.lt_succ_of_le hlen) hps (by simpa using hbytes)
    (by simpa using hdec)
  simpa [State.scan, maxInstrBytes] using hscan

/-- Settles O7: the bytes written are read back, the low one because its address is not that of the high one. -/
theorem storeThenLoad : Obligations.StoreThenLoad := by
  intro ph seg off v s t hbus hwf hstore
  obtain ⟨u, hu, ht, -⟩ := store16_ok ph seg off v hbus
  obtain rfl : u = t := by simpa [hu] using hstore
  have hmem : u.mem = (s.putWord seg off v).mem := by rw [ht]; rfl
  have hbyte (o : Word) : u.byteAt seg o = (s.putWord seg off v).byteAt seg o := by
    rw [State.byteAt, State.byteAt, hmem]
  have hword : u.wordAt seg off = v := by
    rw [State.wordAt, hbyte, hbyte, ← State.wordAt, State.wordAt_putWord_same _ _ _ hwf]
  have hlow := State.byteAt_putByte_same seg off (lowByte v) hwf
  have hne : off ≠ off + 1 := by bv_omega
  refine ⟨?_, ?_, ?_, ?_, fun a hlo hhi => ?_⟩
  · rw [hbyte, State.putWord, State.byteAt_putByte_other _ _ hne, hlow]
    rfl
  · exact (hbyte _).trans (State.byteAt_putByte_same _ _ _ (State.putByte_mem_wf _ _ _ hwf))
  · obtain ⟨w, hw, -⟩ := load16_ok (s := u) ph seg off (State.accepts_of_eq hbus (by rw [ht]; rfl))
    exact ⟨w, by rw [hw, hword]⟩
  · rw [hmem]
    exact State.putWord_mem_wf _ _ _ hwf
  · rw [hmem, State.putWord_mem, Memory.read_write_other _ _ hhi, Memory.read_write_other _ _ hlo]

/-- Settles O8: the bytes are those of `State.appended`, as many as the draw gives within the free space. -/
theorem fillPoint_appends : Obligations.FillPoint := by
  intro s hbus hfits
  refine ⟨s.fillCount, ?_, (s.drew 1).fetchOps s.fillCount, fill_ok hbus, State.dataOps_fetchOps _ _, ?_⟩
  · have := s.fillCount_le
    omega
  · simp [State.fetchOps]

/-! ## A unit on an accepting bus -/

/-- The fill and the bytes of the unit: IP goes past them, and nothing is recorded of what stands in front yet. -/
theorem fetchUnit_ok {s : State} (h : s.accepts) (n : Nat) :
    ∃ t, fetchUnit n s = .ok () t ∧ t = ({ s with
      ip := s.ip + BitVec.ofNat 16 n, pfx := { Prefixes.none with start := s.ip } } : State).withBiu t := by
  rw [fetchUnit, fill_ok h]
  exact ⟨_, consume_ok (s := { (s.drew 1).appended s.fillCount with pfx := { Prefixes.none with start := s.ip } })
    (State.accepts_of_eq h rfl) n, rfl⟩

theorem execNext_of_running {i : Instr} {s : State} (h : s.fault = none) : execNext i (.next s) = exec i s := by
  simp [execNext, h]

/-- What stands in front is run in order; a relation that holds at the start and that each of them keeps holds where the
instruction begins. -/
theorem foldl_execNext {R : State → Prop} {ps : List Instr} {s : State} (hs : R s)
    (hstep : ∀ p ∈ ps, ∀ t u, R t → t.fault = none → exec p t = .next u → R u) :
    ∃ t, ps.foldl (fun o p => execNext p o) (.next s) = .next t ∧ R t := by
  induction ps generalizing s with
  | nil => exact ⟨s, rfl, hs⟩
  | cons p ps ih =>
    have hrest : ∀ q ∈ ps, ∀ t u, R t → t.fault = none → exec q t = .next u → R u := fun q hq =>
      hstep q (List.mem_cons_of_mem _ hq)
    rw [List.foldl_cons, execNext]
    split
    next => exact ih hs hrest
    next hrun =>
      obtain ⟨u, hu⟩ := exec_next p s
      rw [hu]
      exact ih (hstep p List.mem_cons_self s u hs (by simpa using hrun) hu) hrest

/-- The whole of a unit: the bytes in front, as above, and then the instruction unless a failure has stopped the unit. -/
theorem execAll_next {R : State → Prop} {c : Scan} {s : State} (hs : R s)
    (hstep : ∀ p ∈ c.prefixes, ∀ t u, R t → t.fault = none → exec p t = .next u → R u) :
    ∃ t, execAll c s = .next t ∧
      ((R t ∧ t.fault.isSome = true) ∨ ∃ u, R u ∧ u.fault = none ∧ exec c.ins u = .next t) := by
  obtain ⟨t, ht, hRt⟩ := foldl_execNext hs hstep
  rw [execAll, ht, execNext]
  split
  next hfault => exact ⟨t, rfl, .inl ⟨hRt, hfault⟩⟩
  next hrun =>
    obtain ⟨u, hu⟩ := exec_next c.ins t
    exact ⟨u, hu, .inr ⟨t, hRt, by simpa using hrun, hu⟩⟩

theorem step_of_running {s : State} (hfault : s.fault = none) (hhalted : s.halted = false) {t : State}
    (h : unitOfWork s = .next t) : step s = .next (boundary s.flags.tf t) := by
  simp [step, stepState, hfault, stepRunning, hhalted, h]

/-- Settles O12: the unit of the scan, or the next one of the repetition, on an accepting bus. -/
theorem stepRunsPrefixedOrRepeated : Obligations.StepRunsPrefixedOrRepeated := by
  intro s hfault hhalted hbus
  refine ⟨fun c hrep hscan => ?scanned, fun r hrep => ?repeated⟩
  case scanned =>
    obtain ⟨u, hu, hframe⟩ := fetchUnit_ok hbus c.length
    obtain ⟨t, ht, -⟩ := execAll_next (R := fun _ => True) (c := c) (s := u) trivial (by simp)
    exact ⟨u, hframe, t, ht, step_of_running hfault hhalted (by simp only [unitOfWork, hrep, hscan, hu, ht])⟩
  case repeated =>
    obtain ⟨t, ht⟩ := exec_next r.ins { (s.drew 1).appended s.fillCount with pfx := r.pfx }
    exact ⟨_, rfl, t, ht, step_of_running hfault hhalted (by simp only [unitOfWork, hrep, fill_ok hbus, ht])⟩

/-- Settles O11: the scan of bytes that decode to an instruction is that instruction alone. -/
theorem stepRunsInstruction : Obligations.StepRunsInstruction := by
  intro s i rest hfault hhalted hrep hbus hdec hi
  have hscan : s.scan = some ⟨[], i, 6 - rest.length⟩ := by
    have := prefixesScanned s [] i rest (Nat.zero_le _) (by simp) rfl hdec hi
    simpa using this
  obtain ⟨u, hu, t, ht, hstep⟩ := (stepRunsPrefixedOrRepeated s hfault hhalted hbus).1 _ hrep hscan
  have hrun : u.fault = none := by rw [hu]; exact hfault
  exact ⟨u, hu, t, by rw [← ht, execAll, List.foldl_nil, execNext_of_running hrun], hstep⟩

end Sys2Proof.Machine
end

section
/-! SUPPORT. Rejected accesses (60_exceptions.md R202): the first rejected fetch of a fill, of a decode loop and of a unit, and
the rejected data accesses. Then the proofs of the obligations on rejected accesses and on how a step ends. -/

namespace Sys2Proof.Machine

/-! ## The first rejected fetch -/

theorem prefetch_accepted {s : State} {k : Nat}
    (h : ∀ i, i < k → s.rejectedAt (s.busLog.length + i) .memory false (s.fetchAddr i).toNat = false) :
    prefetch k s = .ok () (s.appended k) := by
  have hnone : s.fetchRejected k = false := by
    rw [State.fetchRejected, List.any_eq_false]
    intro r hr hc
    obtain ⟨i, hi, hcov⟩ := List.any_eq_true.1 hc
    have hrej : s.rejectedAt (s.busLog.length + i) .memory false (s.fetchAddr i).toNat = true :=
      List.any_eq_true.2 ⟨r, hr, hcov⟩
    rw [h i (List.mem_range.1 hi)] at hrej
    cases hrej
  rw [prefetch, hnone]
  rfl

theorem State.appended_busLog_length (s : State) (k : Nat) : (s.appended k).busLog.length = s.busLog.length + k := by
  simp [State.fetchOps, Nat.add_comm]

/-- Fetches that come before the first rejected one bring it nearer. -/
theorem State.firstRejectedFetch_appended {s : State} {j k : Nat} (h : s.firstRejectedFetch j) (hk : k ≤ j) :
    (s.appended k).firstRejectedFetch (j - k) := by
  have hat (i : Nat) : (s.appended k).rejectedAt ((s.appended k).busLog.length + i) .memory false
      ((s.appended k).fetchAddr i).toNat
        = s.rejectedAt (s.busLog.length + (k + i)) .memory false (s.fetchAddr (k + i)).toNat := by
    rw [State.appended_busLog_length, State.appended_fetchAddr, Nat.add_assoc]
    rfl
  refine ⟨fun i hi => (hat i).trans (h.1 _ (by omega)), ?_⟩
  rw [hat, Nat.add_sub_cancel' hk]
  exact h.2

theorem fill_rejected {s : State} {j : Nat} (h : s.firstRejectedFetch j) :
    fill s = .stop ((s.drew 1).appended j).busFault ∨ ∃ k, k ≤ j ∧ fill s = .ok () ((s.drew 1).appended k) := by
  rcases lt_or_ge j s.fillCount with hj | hj
  · exact .inl (prefetch_rejected (s := s.drew 1) h hj)
  · exact .inr ⟨s.fillCount, hj, prefetch_accepted (s := s.drew 1) fun i hi => h.1 i (by omega)⟩

theorem consume_rejected {s : State} {j n : Nat} (h : s.firstRejectedFetch j) (hn : s.queue.length + j < n) :
    consume n s =
      .stop { (s.appended j).busFault with queue := [], ip := s.ip + BitVec.ofNat 16 (s.queue.length + j) } := by
  have hlen : (s.appended j).queue.length = s.queue.length + j := by simp [State.fetchBytes_length]
  rw [consume, prefetch_rejected h (by omega), ← hlen]
  rfl

theorem fetchUnit_rejected {s : State} {j n : Nat} (h : s.firstRejectedFetch j) (hn : s.queue.length + j < n) :
    ∃ t, fetchUnit n s = .stop t ∧
      t = ({ s with ip := t.ip, pfx := t.pfx, fault := some .busFault } : State).withBiu t := by
  rw [fetchUnit]
  rcases fill_rejected h with hstop | ⟨k, hk, hok⟩
  · exact ⟨_, by rw [hstop]; rfl, rfl⟩
  · have hlen : ((s.drew 1).appended k).queue.length = s.queue.length + k := by simp [State.fetchBytes_length]
    have hfirst : ({ (s.drew 1).appended k with pfx := { Prefixes.none with start := s.ip } } : State).firstRejectedFetch
      (j - k) := State.firstRejectedFetch_appended (s := s.drew 1) h hk
    rw [hok]
    exact ⟨_, consume_rejected hfirst (by change ((s.drew 1).appended k).queue.length + _ < n; omega), rfl⟩

/-! ## The decode loop that finds no instruction (notes/assumptions/12.md) -/

theorem State.fetchAddr_mod (s : State) (j : Nat) : s.fetchAddr (j % 2 ^ 16) = s.fetchAddr j := by
  have hmod : BitVec.ofNat 16 (j % 2 ^ 16) = BitVec.ofNat 16 j := BitVec.eq_of_toNat_eq (by simp)
  rw [State.fetchAddr, State.fetchAddr, hmod]

/-- The highest call number that the list of rejected calls names. -/
def maxCall (l : List Reject) : Nat := l.foldr (fun r n => max (r.call.getD 0) n) 0

theorem le_maxCall {l : List Reject} {r : Reject} (hr : r ∈ l) : r.call.getD 0 ≤ maxCall l := by
  induction l with
  | nil => cases hr
  | cons q l ih =>
    rcases List.mem_cons.1 hr with rfl | hr
    · exact Nat.le_max_left _ _
    · exact (ih hr).trans (Nat.le_max_right _ _)

/-- The first rejected fetch is within the first round of the code segment, or is a call singled out by its number. -/
theorem State.firstRejectedFetch_lt {s : State} {j : Nat} (h : s.firstRejectedFetch j) :
    s.queue.length + j < s.endlessBytes := by
  suffices hj : j < Config.maxPrefixes + maxCall s.rejects by
    have hdef : s.endlessBytes = s.queue.length + Config.maxPrefixes + maxCall s.rejects := rfl
    omega
  obtain ⟨r, hr, hcov⟩ := List.any_eq_true.1 h.2
  have hmax : Config.maxPrefixes = 2 ^ 16 + 4 := rfl
  cases hcall : r.call with
  | some m =>
    have hm : m = s.busLog.length + j := by
      rw [Reject.covers, hcall, Bool.and_eq_true] at hcov
      simpa using hcov.2
    have := le_maxCall hr
    rw [hcall, Option.getD_some] at this
    omega
  | none =>
    have hround : s.rejectedAt (s.busLog.length + j % 2 ^ 16) .memory false (s.fetchAddr (j % 2 ^ 16)).toNat = true := by
      rw [s.fetchAddr_mod]
      exact List.any_eq_true.2 ⟨r, hr, by simpa [Reject.covers, hcall] using hcov⟩
    have hge : ¬ j % 2 ^ 16 < j := fun hlt => by
      rw [h.1 _ hlt] at hround
      cases hround
    have := Nat.mod_lt j (show 0 < 2 ^ 16 by decide)
    omega

/-- Where the loop goes through all its bytes, it would never meet a rejected fetch. -/
theorem fetchUnit_endless {s t : State} (h : fetchUnit s.endlessBytes s = .ok () t) (j : Nat) :
    s.rejectedAt (s.busLog.length + j) .memory false (s.fetchAddr j).toNat = false := by
  by_contra hj
  have hex : ∃ j, s.rejectedAt (s.busLog.length + j) .memory false (s.fetchAddr j).toNat = true := ⟨j, by simpa using hj⟩
  have hfirst : s.firstRejectedFetch (Nat.find hex) :=
    ⟨fun i hi => by simpa using Nat.find_min hex hi, Nat.find_spec hex⟩
  obtain ⟨u, hu, -⟩ := fetchUnit_rejected hfirst (State.firstRejectedFetch_lt hfirst)
  rw [h] at hu
  cases hu

/-! ## How a step ends -/

/-- A unit answers a next state, or goes on for ever. -/
theorem unitOfWork_outcomes (s : State) : (∃ t, unitOfWork s = .next t) ∨
    (s.rep = none ∧ s.scan = none ∧ (∃ t, fetchUnit s.endlessBytes s = .ok () t) ∧
      unitOfWork s = .fault .endlessPrefixes) := by
  cases hrep : s.rep with
  | some r =>
    cases hfill : fill s with
    | stop t => exact .inl ⟨t, by simp only [unitOfWork, hrep, hfill]⟩
    | ok _ t =>
      obtain ⟨u, hu⟩ := exec_next r.ins { t with pfx := r.pfx }
      exact .inl ⟨u, by simp only [unitOfWork, hrep, hfill, hu]⟩
  | none =>
    cases hscan : s.scan with
    | some c =>
      cases hfetch : fetchUnit c.length s with
      | stop t => exact .inl ⟨t, by simp only [unitOfWork, hrep, hscan, hfetch]⟩
      | ok _ t =>
        obtain ⟨u, hu, -⟩ := execAll_next (R := fun _ => True) (c := c) (s := t) trivial (by simp)
        exact .inl ⟨u, by simp only [unitOfWork, hrep, hscan, hfetch, hu]⟩
    | none =>
      cases hfetch : fetchUnit s.endlessBytes s with
      | stop t => exact .inl ⟨t, by simp only [unitOfWork, hrep, hscan, hfetch]⟩
      | ok _ t => exact .inr ⟨rfl, rfl, ⟨t, rfl⟩, by simp only [unitOfWork, hrep, hscan, hfetch]⟩

/-- Settles O15: a recorded failure, the halted core, and what a unit can answer. -/
theorem stepOutcomes : Obligations.StepOutcomes := by
  intro s
  cases hfault : s.fault with
  | some f => exact .inr (.inl ⟨f, rfl, step_of_fault hfault⟩)
  | none =>
    cases hhalted : s.halted with
    | true => exact .inl ⟨_, rfl, step_of_halted hfault hhalted⟩
    | false =>
      rcases unitOfWork_outcomes s with ⟨t, ht⟩ | ⟨hrep, hscan, ⟨t, ht⟩, hunit⟩
      · exact .inl ⟨_, rfl, step_of_running hfault hhalted ht⟩
      · refine .inr (.inr ⟨rfl, rfl, hrep, hscan, fetchUnit_endless ht, ?_⟩)
        simp [step, stepState, hfault, stepRunning, hhalted, hunit]

/-! ## Rejected data accesses -/

/-- Before a transaction stand no more fetches than the queue holds. -/
theorem fillPoint_calls (ph : Phase) (s : State) :
    (fillPoint ph s).Post
      (fun _ t => t = s.withBiu t ∧ ∃ k, k ≤ Config.queueSize ∧ t.busLog.length = s.busLog.length + k) (BusStop s) := by
  cases ph with
  | entry => exact ⟨rfl, 0, Nat.zero_le _, rfl⟩
  | exec =>
    refine (prefetch_post s.fillCount (s.drew 1)).mono ?_ fun t h => (Quiet.drew s 1).busStop h
    rintro _ _ rfl
    refine ⟨rfl, s.fillCount, ?_, State.appended_busLog_length _ _⟩
    have := Nat.mod_lt (Config.fill s.draws) (show 0 < Config.queueSize - s.queue.length + 1 by omega)
    change Config.fill s.draws % _ ≤ _
    omega

theorem StopsAt.busFault {α : Type} {s u : State} (h : u = s.withBiu u) : StopsAt (α := α) (.stop u.busFault) s :=
  ⟨u.busFault, rfl, congrArg State.busFault h⟩

theorem StopsAt.bind {α β : Type} {r : Res α} {e : State} (h : StopsAt r e) (f : α → State → Res β) :
    StopsAt (r.bind f) e := by
  obtain ⟨t, rfl, ht⟩ := h
  exact ⟨t, rfl, ht⟩

/-- A transaction rejected as the next one stops, in the fill before it or at its own call. -/
theorem stopsAt_of_rejectsNext {α : Type} {s : State} {sp : Space} {wr : Bool} {a : Nat} (ph : Phase)
    (f : State → Res α) (h : s.rejectsNext sp wr a) :
    StopsAt ((fillPoint ph s).bind fun _ t => if t.rejected sp wr a then .stop t.busFault else f t) s := by
  have hpost := fillPoint_calls ph s
  cases hfill : fillPoint ph s with
  | stop t =>
    rw [hfill] at hpost
    obtain ⟨u, rfl, hu, -⟩ := hpost
    exact .busFault hu
  | ok _ t =>
    rw [hfill] at hpost
    obtain ⟨ht, k, hk, hlen⟩ := hpost
    have hrej : t.rejected sp wr a = true := by
      rw [State.rejected, hlen, ht]
      exact h k hk
    simp only [Res.bind, hrej, if_true]
    exact .busFault ht

theorem Runs.of_stopsAt {i : Instr} {s e : State} {r : Res Unit} (hexec : exec i s = r.out) (h : StopsAt r e) :
    Runs i s fun _ => { e with fault := some .busFault } := by
  obtain ⟨t, rfl, ht⟩ := h
  exact ⟨t, hexec, ht⟩

theorem boundary_of_fault {s : State} {f : Terminal} (tf : Bool) (h : s.fault = some f) :
    boundary tf s = { s with pfx := Prefixes.none } := by
  simp [boundary, h]

/-- The boundary after a rejected fetch of the unit services nothing. -/
theorem step_of_fetch_stop {s t : State} (hfault : s.fault = none) (hhalted : s.halted = false)
    (hunit : unitOfWork s = .next t) (ht : t = ({ s with ip := t.ip, pfx := t.pfx, fault := some .busFault }
      : State).withBiu t) : ∃ t, step s = .next t ∧
        t = ({ s with ip := t.ip, fault := some .busFault, pfx := Prefixes.none } : State).withBiu t := by
  have hstopped : t.fault = some .busFault := by rw [ht]; rfl
  refine ⟨{ t with pfx := Prefixes.none }, ?_, ?_⟩
  · rw [step_of_running hfault hhalted hunit, boundary_of_fault _ hstopped]
  · exact congrArg (fun x : State => { x with pfx := Prefixes.none }) ht

/-- A word store of which the bus rejects the second byte alone. -/
theorem store16_second_rejected {s : State} {seg off : Word} (v : Word)
    (h : ∀ n sp wr a, s.rejectedAt n sp wr a = true ↔ sp = .memory ∧ wr = true ∧ a = (phys seg (off + 1)).toNat) :
    StopsAt (store16 .exec seg off v s) (s.putByte seg off (lowByte v)) := by
  have hfetch (n a : Nat) : s.rejectedAt n .memory false a = false :=
    Bool.eq_false_iff.2 fun hr => by simpa using (h _ _ _ _).1 hr
  have hfill : fill s = .ok () ((s.drew 1).appended s.fillCount) :=
    prefetch_accepted (s := s.drew 1) fun i _ => hfetch _ _
  have hne : off ≠ off + 1 := by bv_omega
  have hfirst (n : Nat) : s.rejectedAt n .memory true (phys seg off).toNat = false :=
    Bool.eq_false_iff.2 fun hr => hne (phys_inj (BitVec.eq_of_toNat_eq ((h _ _ _ _).1 hr).2.2))
  have hlow : ∃ u, memWrite .exec (phys seg off) (lowByte v) s = .ok () u ∧
      u = (s.putByte seg off (lowByte v)).withBiu u := by
    have hok : ((s.drew 1).appended s.fillCount).rejected .memory true (phys seg off).toNat = false := hfirst _
    refine ⟨({ (s.drew 1).appended s.fillCount with mem := s.mem.write (phys seg off) (lowByte v) } : State).log
      (.write (phys seg off) (lowByte v)), ?_, rfl⟩
    rw [memWrite, fillPoint, hfill, Res.bind, hok]
    rfl
  obtain ⟨u, hu, hframe⟩ := hlow
  have hnext : u.rejectsNext .memory true (phys seg (off + 1)).toNat := fun k _ => by
    rw [hframe]
    exact (h _ _ _ _).2 ⟨rfl, rfl, rfl⟩
  obtain ⟨t, ht, e⟩ := stopsAt_of_rejectsNext .exec (fun x => .ok () (({ x with
    mem := x.mem.write (phys seg (off + 1)) (highByte v) } : State).log (.write (phys seg (off + 1)) (highByte v)))) hnext
  rw [hframe] at e
  exact ⟨t, by rw [store16, hu]; exact ht, e⟩

/-- Settles O28: each access is a fill point and its own call, and a unit is a fill and the fetches of its bytes. -/
theorem rejectedAccess : Obligations.RejectedAccess := by
  intro s
  refine ⟨fun ph a h => stopsAt_of_rejectsNext ph _ h, fun ph a v h => stopsAt_of_rejectsNext ph _ h,
    fun p h => ⟨stopsAt_of_rejectsNext .exec _ h, stopsAt_of_rejectsNext .exec _ h⟩,
    fun p h => ⟨fun v => stopsAt_of_rejectsNext .exec _ h, fun v => stopsAt_of_rejectsNext .exec _ h⟩,
    fun j h => ⟨fill_rejected h, fun n hn => consume_rejected h hn, fun hfault hhalted hrep hscan => ?step⟩,
    fun off h => ?load, fun off h => ?store, fun v h => ?entry, fun tf h => boundary_of_fault tf h⟩
  case step =>
    cases hfound : s.scan with
    | some c =>
      obtain ⟨t, ht, hframe⟩ := fetchUnit_rejected h (hscan c hfound)
      exact step_of_fetch_stop hfault hhalted (by simp only [unitOfWork, hrep, hfound, ht]) hframe
    | none =>
      obtain ⟨t, ht, hframe⟩ := fetchUnit_rejected h (State.firstRejectedFetch_lt h)
      exact step_of_fetch_stop hfault hhalted (by simp only [unitOfWork, hrep, hfound, ht]) hframe
  case load => exact .of_stopsAt rfl (StopsAt.bind (stopsAt_of_rejectsNext .exec _ h) _)
  case store => exact .of_stopsAt rfl (store16_second_rejected _ h)
  case entry =>
    refine StopsAt.bind (StopsAt.bind ?_ _) _
    exact stopsAt_of_rejectsNext (s := s.setReg16 .sp (s.gpr.sp - 2)) .entry _ h

end Sys2Proof.Machine
end

section
/-! SUPPORT. What a unit and its boundary record and keep, on any bus: the log of writes, the place of the queue, the record of
a repetition. Then the proofs of the obligations on memory, on the invariant and on `step_n` (10_state.md sections 4 and 7,
60_exceptions.md R217, R218). -/

namespace Sys2Proof.Machine

/-! ## Fetching the bytes of a unit -/

theorem Recorded.of_reads {s t : State} (hmem : t.mem = s.mem) (hlog : ∃ l, t.busLog = l ++ s.busLog) : Recorded s t := by
  obtain ⟨l, hl⟩ := hlog
  exact ⟨by rw [hmem]; exact id, l, hl, fun _ a h => absurd (by rw [hmem]) h⟩

theorem BusStop.recorded {s t : State} (h : BusStop s t) : Recorded s t := by
  obtain ⟨u, rfl, hframe, l, hl, -⟩ := h
  exact .of_reads (by rw [hframe]; rfl) ⟨l, hl⟩

/-- What a fetch that a rejected read stopped leaves of a repetition. -/
theorem BusStop.keeps {s t : State} (h : BusStop s t) : t.rep = s.rep ∧ t.ip = s.ip ∧ t.fault.isSome = true := by
  obtain ⟨u, rfl, hframe, -⟩ := h
  rw [hframe]
  exact ⟨rfl, rfl, rfl⟩

/-- From `s` the bytes of a unit have been fetched. -/
structure Fetched (s t : State) : Prop where
  recorded : Recorded s t
  rep : t.rep = s.rep
  inStep : s.rep = none → InStep s → InStep t

/-- A fetch of a unit that a rejected read stopped. -/
structure FetchStop (s t : State) : Prop where
  recorded : Recorded s t
  rep : t.rep = s.rep
  fault : t.fault.isSome = true

/-- IP and the fetch cursor go forward together: what is consumed from the queue was fetched before. -/
theorem InStep.consumed {s : State} (n : Nat) (h : InStep s) (hrep : s.rep = none) : InStep (s.consumed n) := by
  have hlen := s.consumed_queue_length n
  have hpos : (s.consumed n).decodePos = s.ip + BitVec.ofNat 16 n := by
    simp [State.decodePos, State.consumed, State.appended, hrep]
  have hfetch : (s.consumed n).fetchIp = s.fetchIp + BitVec.ofNat 16 (n - s.queue.length) := rfl
  have hsum : s.queue.length + (n - s.queue.length) = n + (s.queue.length - n) := by omega
  have hcursor := h.cursor
  rw [State.decodePos, hrep] at hcursor
  refine ⟨by have := h.fits; omega, ?_⟩
  rw [hfetch, hpos, hlen, hcursor, BitVec.add_assoc, BitVec.add_assoc, ← BitVec.ofNat_add, ← BitVec.ofNat_add, hsum]

theorem consume_post (n : Nat) (s : State) : (consume n s).Post (fun _ t => t = s.consumed n) (FetchStop s) := by
  have hpost := prefetch_post (n - s.queue.length) s
  rw [consume]
  split
  next t heq =>
    rw [heq] at hpost
    obtain rfl := hpost
    rfl
  next t heq =>
    rw [heq] at hpost
    have hkeeps := BusStop.keeps hpost
    exact ⟨hpost.recorded.trans (.of_same rfl rfl), hkeeps.1, hkeeps.2.2⟩

theorem fetchUnit_post (n : Nat) (s : State) : (fetchUnit n s).Post (fun _ t => Fetched s t) (FetchStop s) := by
  refine ((fill_post s).mono (fun _ _ => id) fun t h => ⟨h.recorded, h.keeps.1, h.keeps.2.2⟩).bind fun _ t ht => ?_
  have hstored : Stored [] s t := ht.stored
  have hrep : t.rep = s.rep := by rw [ht.frame]; rfl
  refine (consume_post n { t with pfx := { Prefixes.none with start := t.ip } }).mono ?_ fun u hu => ?_
  · rintro _ _ rfl
    refine ⟨hstored.recorded.trans (.of_reads rfl ⟨_, rfl⟩), hrep, fun hnone hs => ?_⟩
    have hstep : InStep t := hs.of_cursor ht.cursor (by rw [State.decodePos, State.decodePos, hrep, hstored.ip])
    exact InStep.consumed n (s := { t with pfx := { Prefixes.none with start := t.ip } }) ⟨hstep.fits, hstep.cursor⟩
      (hrep.trans hnone)
  · exact ⟨hstored.recorded.trans ⟨hu.recorded.wf, hu.recorded.log⟩, hu.rep.trans hrep, hu.fault⟩

/-! ## A unit of work -/

/-- From `s` a unit has come to `t`. -/
structure Ran (s t : State) : Prop where
  recorded : Recorded s t
  repOk : s.repOk = true → t.repOk = true
  inStep : s.repOk = true → InStep s → t.fault.isSome = true ∨ InStep t

theorem Instr.isString_of_isPrefix {p : Instr} (hp : p.isPrefix = true) : p.isString = false := by
  by_contra hs
  obtain ⟨o, n, rfl⟩ := exists_strOp_of_isString (i := p) (by simpa using hs)
  rw [StrOp.instr_isPrefix] at hp
  cases hp

theorem exec_repOk {i : Instr} {s t : State} (hrep : s.rep = none) (hexec : exec i s = .next t) : t.repOk = true := by
  cases hi : i.isString with
  | true => exact exec_string_repOk hi hexec (State.repOk_of_none hrep) (.inl hrep)
  | false => exact State.repOk_of_none (((exec_within hexec).rep.resolve_right (by simp [hi])).trans hrep)

/-- From `s` a unit has come to `u`, where another instruction or its own begins: no repetition is in progress. -/
structure InFront (s u : State) : Prop where
  recorded : Recorded s u
  rep : u.rep = none
  inStep : InStep s → u.fault.isSome = true ∨ InStep u

/-- What stands in front of the instruction leaves the repetition alone and the queue in step, and so does the instruction. -/
theorem execAll_ran {c : Scan} {s t : State} (hc : ∀ p ∈ c.prefixes, p.isPrefix = true) (hrep : s.rep = none)
    (hexec : execAll c s = .next t) : Ran s t := by
  have hkeep : ∀ p ∈ c.prefixes, ∀ u v, InFront s u → u.fault = none → exec p u = .next v → InFront s v := by
    intro p hp u v hu hrun hv
    have hw := exec_within hv
    have hnone := (hw.rep.resolve_right (by simp [Instr.isString_of_isPrefix (hc p hp)])).trans hu.rep
    exact ⟨hu.recorded.trans hw.recorded, hnone, fun hs =>
      (exec_lands hv).imp_right fun hland => hland (.inl hu.rep) ((hu.inStep hs).resolve_left (by simp [hrun]))⟩
  obtain ⟨u, hu, hend⟩ := execAll_next (R := InFront s) ⟨.of_same rfl rfl, hrep, .inr⟩ hkeep
  obtain rfl : u = t := by simpa [hu] using hexec
  rcases hend with ⟨hfront, hfault⟩ | ⟨v, hfront, hrun, hv⟩
  · exact ⟨hfront.recorded, fun _ => State.repOk_of_none hfront.rep, fun _ _ => .inl hfault⟩
  · exact ⟨hfront.recorded.trans (exec_within hv).recorded, fun _ => exec_repOk hfront.rep hv, fun _ hs =>
      (exec_lands hv).imp_right fun hland => hland (.inl hfront.rep) ((hfront.inStep hs).resolve_left (by simp [hrun]))⟩

theorem Ran.of_fetchStop {s t : State} (hrep : s.rep = none) (h : FetchStop s t) : Ran s t :=
  ⟨h.recorded, fun _ => State.repOk_of_none (h.rep.trans hrep), fun _ _ => .inl h.fault⟩

/-- The next unit of a repetition in progress (10_state.md R35). -/
theorem unitOfWork_repeated {s t : State} {r : Rep} (hrep : s.rep = some r) (h : unitOfWork s = .next t) : Ran s t := by
  have hfill := fill_post s
  simp only [unitOfWork, hrep] at h
  split at h
  next u heq =>
    rw [heq] at hfill
    obtain rfl : u = t := by simpa using h
    obtain ⟨hsame, hip, hfault⟩ := BusStop.keeps hfill
    exact ⟨hfill.recorded, fun hs => by rwa [State.repOk_of_same hsame hip], fun _ _ => .inl hfault⟩
  next u heq =>
    rw [heq] at hfill
    have hstored : Stored [] s u := Quiet.stored hfill
    have hsame : u.rep = s.rep := by rw [hfill.frame]; rfl
    have hrec : Recorded s { u with pfx := r.pfx } := ⟨hstored.recorded.wf, hstored.recorded.log⟩
    have hok : ({ u with pfx := r.pfx } : State).repOk = s.repOk := State.repOk_of_same hsame hstored.ip
    have hparts (hs : s.repOk = true) : r.ins.isString = true ∧ r.pfx.rep.isSome = true := by
      simp only [State.repOk, hrep, Bool.and_eq_true] at hs
      exact hs.1
    refine ⟨hrec.trans (exec_within h).recorded, fun hs => ?_, fun hs hstep => ?_⟩
    · exact exec_string_repOk (hparts hs).1 h (hok.trans hs) (.inr (hparts hs).2)
    · have hu : InStep u := hstep.of_cursor hfill.cursor (by rw [State.decodePos, State.decodePos, hsame, hstored.ip])
      exact (exec_lands h).imp_right fun hland => hland (.inr (hparts hs).1) ⟨hu.fits, hu.cursor⟩

theorem unitOfWork_ran {s t : State} (h : unitOfWork s = .next t) : Ran s t := by
  cases hrep : s.rep with
  | some r => exact unitOfWork_repeated hrep h
  | none =>
    simp only [unitOfWork, hrep] at h
    split at h
    next c hscan =>
      have hpost := fetchUnit_post c.length s
      split at h
      next u heq =>
        rw [heq] at hpost
        obtain rfl : u = t := by simpa using h
        exact .of_fetchStop hrep hpost
      next u heq =>
        rw [heq] at hpost
        have hrun := execAll_ran (scanFrom_prefixes hscan).1 (hpost.rep.trans hrep) h
        exact ⟨hpost.recorded.trans hrun.recorded, fun _ => hrun.repOk (State.repOk_of_none (hpost.rep.trans hrep)),
          fun _ hs => hrun.inStep (State.repOk_of_none (hpost.rep.trans hrep)) (hpost.inStep hrep hs)⟩
    next =>
      have hpost := fetchUnit_post s.endlessBytes s
      split at h
      next u heq =>
        rw [heq] at hpost
        obtain rfl : u = t := by simpa using h
        exact .of_fetchStop hrep hpost
      next => cases h

/-! ## The boundary -/

theorem State.settled_iff (s : State) :
    s.settled = true ↔ InStep s ∧ s.internalReq = none ∧ s.inhibit = false := by
  constructor
  · intro h
    simp only [State.settled, Bool.and_eq_true, decide_eq_true_eq, Option.isNone_iff_eq_none, Bool.not_eq_true'] at h
    obtain ⟨⟨⟨hfits, hcursor⟩, hreq⟩, hinhibit⟩ := h
    exact ⟨⟨hfits, hcursor⟩, hreq, hinhibit⟩
  · rintro ⟨⟨hfits, hcursor⟩, hreq, hinhibit⟩
    simp [State.settled, hfits, ← hcursor, hreq, hinhibit]

/-- From `s` a chain, or a boundary, has come to `t`. -/
structure Bounded (s t : State) : Prop where
  recorded : Recorded s t
  repOk : s.repOk = true → t.repOk = true
  settled : s.fault.isSome = true ∨ InStep s → t.fault.isSome = true ∨ t.settled = true
  inhibit : t.fault.isSome = true ∨ t.inhibit = false

/-- The chain starts in a state without a failure, and keeps what stands in front of an instruction. -/
theorem serviceChain_bounded {s : State} (hfault : s.fault = none) :
    Bounded s (serviceChain s).state ∧ (serviceChain s).state.pfx = s.pfx := by
  have hpost := serviceChain_post s
  cases hchain : serviceChain s with
  | stop t =>
    rw [hchain] at hpost
    exact ⟨⟨hpost.recorded, hpost.repOk, fun _ => .inl hpost.fault, .inl hpost.fault⟩, hpost.pfx⟩
  | ok _ t =>
    rw [hchain] at hpost
    obtain ⟨hserved, hinhibit, hreq, -⟩ := hpost
    refine ⟨⟨⟨hserved.recorded.wf, hserved.recorded.log⟩, hserved.repOk, fun hs => .inr ?_, .inr hinhibit⟩, hserved.pfx⟩
    have hstep := hserved.inStep (hs.resolve_left (by simp [hfault]))
    exact t.settled_iff.2 ⟨⟨hstep.fits, hstep.cursor⟩, hreq, hinhibit⟩

theorem boundary_bounded (tf : Bool) (s : State) : Bounded s (boundary tf s) ∧ (boundary tf s).pfx = Prefixes.none := by
  rw [boundary]
  split
  next hfault =>
    exact ⟨⟨.of_same rfl rfl, fun h => by rwa [State.repOk_of_same rfl rfl], fun _ => .inl hfault, .inl hfault⟩, rfl⟩
  next hfault =>
    obtain ⟨hb, hpfx⟩ := serviceChain_bounded
      (s := { s with ssLatch := s.ssLatch || tf, pfx := Prefixes.none }) (by simpa using hfault)
    exact ⟨⟨⟨hb.recorded.wf, hb.recorded.log⟩, hb.repOk, fun hs => hb.settled (hs.imp_right fun h => ⟨h.fits, h.cursor⟩),
      hb.inhibit⟩, hpfx⟩

/-! ## A step -/

/-- The three ways to a next state: an idle core, the chain of a woken one, a unit and its boundary. -/
theorem step_cases {s t : State} (h : step s = .next t) : s.fault = none ∧
    ((s.halted = true ∧ s.wakes = false ∧ t = s) ∨ (s.halted = true ∧ s.wakes = true ∧ t = (serviceChain s).state)
      ∨ (s.halted = false ∧ ∃ u, unitOfWork s = .next u ∧ t = boundary s.flags.tf u)) := by
  cases hfault : s.fault with
  | some f => rw [step_of_fault hfault] at h; cases h
  | none =>
    refine ⟨rfl, ?_⟩
    cases hhalted : s.halted with
    | true =>
      rw [step_of_halted hfault hhalted] at h
      obtain rfl := Host.Outcome.next.inj h
      cases hwakes : s.wakes with
      | true => exact .inr (.inl ⟨rfl, rfl, rfl⟩)
      | false => exact .inl ⟨rfl, rfl, rfl⟩
    | false =>
      simp only [step, stepState, hfault, stepRunning, hhalted] at h
      split at h
      · cases ‹false = true›
      · split at h
        next u hu => exact .inr (.inr ⟨rfl, u, hu, (Host.Outcome.next.inj h).symm⟩)
        next => cases h
        next => cases h

/-! ## The obligations -/

/-- Settles O18: fetches, instructions and entries record what they write, and nothing else writes. -/
theorem memoryChangesAreWrites : Obligations.MemoryChangesAreWrites := by
  intro s t hwf h
  have hrec : Recorded s t := by
    obtain ⟨hfault, ⟨-, -, rfl⟩ | ⟨-, -, rfl⟩ | ⟨-, u, hu, rfl⟩⟩ := step_cases h
    · exact .of_same rfl rfl
    · exact (serviceChain_bounded hfault).1.recorded
    · exact (unitOfWork_ran hu).recorded.trans (boundary_bounded _ u).1.recorded
  obtain ⟨l, hl, hwrites⟩ := hrec.log
  exact ⟨l, hl, hwrites hwf⟩

/-- Settles O17: the unit keeps memory canonical, the repetition well-formed and the queue in step; the boundary clears
requests, `inhibit` and what stood in front. -/
theorem stepKeepsInv : Obligations.StepKeepsInv := by
  rintro s t ⟨hwf, hpfx, hrep, hsettled⟩ h
  obtain ⟨hfault, hcase⟩ := step_cases h
  have hsettled' := hsettled.resolve_left (by simp [hfault])
  have hstep := (s.settled_iff.1 hsettled').1
  rcases hcase with ⟨-, -, rfl⟩ | ⟨-, -, rfl⟩ | ⟨-, u, hu, rfl⟩
  · exact ⟨hwf, hpfx, hrep, hsettled⟩
  · obtain ⟨hb, hkept⟩ := serviceChain_bounded hfault
    exact ⟨hb.recorded.wf hwf, hkept.trans hpfx, hb.repOk hrep, hb.settled (.inr hstep)⟩
  · have hrun := unitOfWork_ran hu
    obtain ⟨hb, hnone⟩ := boundary_bounded s.flags.tf u
    exact ⟨(hrun.recorded.trans hb.recorded).wf hwf, hnone, hb.repOk (hrun.repOk hrep), hb.settled (hrun.inStep hrep hstep)⟩

/-- Settles O16: nothing is queued, pending or in progress after a reset. -/
theorem resetInv : Obligations.ResetInv :=
  ⟨⟨rfl, rfl, rfl, .inr rfl⟩, fun _ _ hwf => ⟨hwf, rfl, rfl, .inr rfl⟩⟩

/-! ## `step_n` (60_exceptions.md R218) -/

/-- How many `Serviced` steps may stand before the next unit: one that clears `inhibit`, one that takes the request. -/
def State.serviceSteps (s : State) : Nat := if s.halted then (if s.inhibit then 2 else 1) else 0

/-- Why a run ends before its count: a failure, an idle core, the stuck state. -/
def RunResult.Early (r : RunResult) : Prop :=
  r.fault ≠ none ∨ (r.state.halted = true ∧ r.state.wakes = false) ∨ step r.state = .fault .endlessPrefixes

theorem step_ne_refused (s : State) (r : Refusal) : step s ≠ .refused r := by
  rcases stepOutcomes s with ⟨t, -, h⟩ | ⟨f, -, h⟩ | ⟨-, -, -, -, -, h⟩ <;> simp [h]

/-- The results of a step that met no failure (R217). -/
theorem stepResult_of_running {s t : State} (h : t.fault = none) :
    stepResult s t = if s.halted then (if s.wakes then .serviced else .idle) else .executed := by
  simp [stepResult, h]

/-- A chain whose first entry fails. -/
theorem serviceChain_of_stop {s t u : State} {v : Byte} (htake : takeRequest s = some (v, t))
    (hentry : intEntry v t = .stop u) : serviceChain s = .stop u := by
  obtain ⟨hpending, -⟩ := takeRequest_some htake
  simp [serviceChain, hpending, serviceLoop, htake, hentry, Res.bind, Res.andThen]

/-- A woken core without `inhibit` runs after its step, unless its first entry failed. -/
theorem serviceChain_of_wakes {s : State} (hwakes : s.wakes = true) (hinhibit : s.inhibit = false)
    (hfault : (serviceChain s).state.fault = none) : (serviceChain s).state.halted = false := by
  obtain ⟨v, u, htake⟩ := takeRequest_of_wakes hwakes (.inl hinhibit)
  cases hentry : intEntry v u with
  | stop t =>
    have hpost := serviceChain_post s
    rw [serviceChain_of_stop htake hentry] at hpost hfault
    exact absurd hpost.fault (by simp [show t.fault = none from hfault])
  | ok _ t =>
    have hent : Entered u t := (intEntry_post v u).of_ok hentry
    rw [serviceChain_of_take htake hentry] at hfault ⊢
    have hpost := serviceChain_post t
    cases hchain : serviceChain t with
    | stop w =>
      rw [hchain] at hpost hfault
      exact absurd hpost.fault (by simp [show w.fault = none from hfault])
    | ok _ w =>
      rw [hchain] at hpost
      exact hpost.halted hent.halted

/-- A `Serviced` step without a failure brings the next unit nearer. -/
theorem serviceSteps_serviceChain {s : State} (hhalted : s.halted = true) (hwakes : s.wakes = true)
    (hfault : s.fault = none) (hrun : (serviceChain s).state.fault = none) :
    (serviceChain s).state.serviceSteps < s.serviceSteps := by
  have hinhibit : (serviceChain s).state.inhibit = false :=
    (serviceChain_bounded hfault).1.inhibit.resolve_left (by simp [hrun])
  cases hs : s.inhibit with
  | true =>
    simp only [State.serviceSteps, hhalted, hs, hinhibit]
    split <;> decide
  | false => simp [State.serviceSteps, hhalted, hs, serviceChain_of_wakes hwakes hs hrun]

/-- `fuel` calls are enough for `k` units: each takes a call of its own and one before it, the first one two. -/
def Enough (fuel k : Nat) (s : State) : Prop := k = 0 ∨ 2 * (k - 1) + 1 + s.serviceSteps ≤ fuel

theorem runSteps_post (fuel k : Nat) (s : State) :
    (runSteps fuel k s).count ≤ k ∧ (Enough fuel k s → (runSteps fuel k s).count < k → (runSteps fuel k s).Early) := by
  induction fuel generalizing k s with
  | zero =>
    refine ⟨Nat.zero_le _, fun henough hcount => ?_⟩
    rcases henough with rfl | hle
    · exact absurd hcount (Nat.not_lt_zero _)
    · omega
  | succ fuel ih =>
    cases k with
    | zero => exact ⟨le_refl 0, fun _ h => absurd h (Nat.not_lt_zero _)⟩
    | succ k =>
      have hearly (r : RunResult) (hcount : r.count = 0) (h : r.Early) :
          r.count ≤ k + 1 ∧ (Enough (fuel + 1) (k + 1) s → r.count < k + 1 → r.Early) :=
        ⟨by omega, fun _ _ => h⟩
      rw [runSteps]
      split
      next f _ => exact hearly _ rfl (.inl (Option.some_ne_none f))
      next h => exact hearly _ rfl (.inr (.inr h))
      next r h => exact absurd h (step_ne_refused s r)
      next t h =>
        obtain ⟨hfault, hcase⟩ := step_cases h
        cases hrun : t.fault with
        | some f =>
          have hres : stepResult s t = .stopped f := by simp [stepResult, hrun]
          rw [hres]
          exact hearly _ rfl (.inl (Option.some_ne_none f))
        | none =>
          rw [stepResult_of_running hrun]
          rcases hcase with ⟨hhalted, hwakes, rfl⟩ | ⟨hhalted, hwakes, rfl⟩ | ⟨hhalted, u, hu, rfl⟩
          · simp only [hhalted, hwakes, if_true, Bool.false_eq_true, if_false]
            exact hearly ⟨0, none, _⟩ rfl (.inr (.inl ⟨hhalted, hwakes⟩))
          · simp only [hhalted, hwakes, if_true]
            have hless := serviceSteps_serviceChain hhalted hwakes hfault hrun
            refine ⟨(ih (k + 1) _).1, fun henough => (ih (k + 1) _).2 (.inr ?_)⟩
            have := henough.resolve_left (Nat.succ_ne_zero k)
            omega
          · simp only [hhalted, Bool.false_eq_true, if_false]
            have hinhibit : (boundary s.flags.tf u).inhibit = false :=
              (boundary_bounded _ u).1.inhibit.resolve_left (by simp [hrun])
            have hone : (boundary s.flags.tf u).serviceSteps ≤ 1 := by
              simp only [State.serviceSteps, hinhibit]
              split <;> decide
            obtain ⟨hle, hih⟩ := ih k (boundary s.flags.tf u)
            refine ⟨Nat.succ_le_succ hle, fun henough hcount => hih ?_ (Nat.lt_of_succ_lt_succ hcount)⟩
            have hroom := henough.resolve_left (Nat.succ_ne_zero k)
            have hzero : s.serviceSteps = 0 := by simp [State.serviceSteps, hhalted]
            rcases Nat.eq_zero_or_pos k with rfl | hk
            · exact .inl rfl
            · exact .inr (by omega)

/-- Settles O30: a unit needs at most one `Serviced` step before it, the first one two. -/
theorem stepNCount : Obligations.StepNCount := by
  intro k s
  obtain ⟨hle, hearly⟩ := runSteps_post (2 * k + 1) k s
  refine ⟨hle, hearly ?_⟩
  have htwo : s.serviceSteps ≤ 2 := by
    rw [State.serviceSteps]
    split
    · split <;> decide
    · decide
  rcases Nat.eq_zero_or_pos k with rfl | hk
  · exact .inl rfl
  · exact .inr (by omega)

end Sys2Proof.Machine
end

section
/-! SUPPORT. Exchanges, far pointers and port transfers on an accepting bus; then the proofs of the obligations on the data
transfer instructions (40_data_transfer.md), on the loops and jumps (44_control_transfer.md) and on nine written-out words. -/

namespace Sys2Proof.Machine

/-! ## Exchanges and far pointers -/

section
variable {α : Type} {w : Nat} {s : State} {Q : α → State → Prop}

/-- Both operands are read before either is written (40_data_transfer.md R92). -/
theorem exchange_answers (e g : Place w) (h : s.accepts) :
    (exchange e g s).Answers fun _ t => ∃ b, t = (g.put (e.val s) (e.put (g.val s) s)).withBiu b := by
  refine e.read_bind h fun b => g.read_bind (State.accepts_of_eq h rfl) fun b' => ?_
  refine e.write_bind _ (State.accepts_of_eq h rfl) fun b'' => ?_
  rw [g.val_withBiu, e.put_withBiu, e.put_withBiu, State.withBiu_withBiu, State.withBiu_withBiu]
  exact g.write_answers _ _ (State.accepts_of_eq h (by cases e <;> rfl))

/-- The far pointer at `EA` is two words (20_memory.md R50). -/
theorem loadFar_bind {f : Word × Word → State → Res α} (m : Mem) (h : s.accepts)
    (hf : ∀ b, (f (s.wordAt (memSeg m s) (effAddr m s), s.wordAt (memSeg m s) (effAddr m s + 2))
      (s.withBiu b)).Answers Q) : ((loadFar m s).bind f).Answers Q := by
  obtain ⟨t, e, ht, -⟩ := load16_ok .exec (memSeg m s) (effAddr m s) h
  obtain ⟨u, e', hu, -⟩ := load16_ok (s := s.withBiu t) .exec (memSeg m s) (effAddr m s + 2) (State.accepts_of_eq h rfl)
  have hfar : loadFar m s = .ok (s.wordAt (memSeg m s) (effAddr m s), s.wordAt (memSeg m s) (effAddr m s + 2)) u := by
    rw [loadFar, e, ht, Res.bind, e']
    rfl
  rw [hfar, hu, State.withBiu_withBiu]
  exact hf u

theorem callFarTo_answers (off seg : Word) (b : State) (h : s.accepts) :
    (callFarTo off seg (s.withBiu b)).Answers fun _ t => ∃ b',
      t = (({ (s.pushed s.sreg.cs).pushed s.ip with ip := off, sreg := { s.sreg with cs := seg } } : State).withBiu
        b').flush := by
  refine push16_bind .exec _ (State.accepts_of_eq h rfl) fun b' => ?_
  exact push16_bind .exec _ (State.accepts_of_eq h rfl) fun b'' => ⟨b'', rfl⟩

/-! ## Ports (20_memory.md R42) -/

/-- An access of the I/O space: a fill point, which makes no data transaction and changes the BIU's fields alone, and then
the accepted call. -/
theorem portAccess_answers {f : State → Res α} (wr : Bool) (p : Nat) (h : s.accepts)
    (hf : ∀ b, dataOps b.busLog = dataOps s.busLog → (f (s.withBiu b)).Answers Q) :
    ((fill s).bind fun _ t => if t.rejected .io wr p then .stop t.busFault else f t).Answers Q := by
  rw [fill_ok h]
  dsimp only [Res.bind]
  have hbus : State.rejected ((s.drew 1).appended s.fillCount) .io wr p = false := h _ .io wr p
  rw [hbus]
  exact hf ((s.drew 1).appended s.fillCount) (by simp)

theorem ioRead8_answers (p : Word) (h : s.accepts) :
    (ioRead8 p s).Answers fun v t => t = s.withBiu t ∧ s.accessed t (.portRead8 p v) :=
  portAccess_answers false p.toNat h fun _ hb => ⟨rfl, rfl, congrArg (List.cons _) hb⟩

theorem ioRead16_answers (p : Word) (h : s.accepts) :
    (ioRead16 p s).Answers fun v t => t = s.withBiu t ∧ s.accessed t (.portRead16 p v) :=
  portAccess_answers false p.toNat h fun _ hb => ⟨rfl, rfl, congrArg (List.cons _) hb⟩

theorem ioWrite8_answers (p : Word) (v : Byte) (h : s.accepts) :
    (ioWrite8 p v s).Answers fun _ t => t = s.withBiu t ∧ s.accessed t (.portWrite8 p v) :=
  portAccess_answers true p.toNat h fun _ hb => ⟨rfl, rfl, congrArg (List.cons _) hb⟩

theorem ioWrite16_answers (p v : Word) (h : s.accepts) :
    (ioWrite16 p v s).Answers fun _ t => t = s.withBiu t ∧ s.accessed t (.portWrite16 p v) :=
  portAccess_answers true p.toNat h fun _ hb => ⟨rfl, rfl, congrArg (List.cons _) hb⟩

end

/-- IN of a byte: AL is the value of the one port read. -/
theorem inp_byte {f : PortForm} {s : State} (p : Word) (h : s.accepts)
    (hexec : exec (.inp f) s = ((ioRead8 p s).andThen fun v t => t.setReg8 .al v).out) :
    ∃ t, exec (.inp f) s = .next t ∧ t = (s.setReg8 .al (t.reg8 .al)).withBiu t
      ∧ s.accessed t (.portRead8 p (t.reg8 .al)) := by
  obtain ⟨v, t, e, ht, hacc⟩ := (ioRead8_answers p h).exists_ok
  have hal : (t.setReg8 .al v).reg8 .al = v := Gprs.get8_set8_same ..
  refine ⟨t.setReg8 .al v, by rw [hexec, e]; rfl, ?_, by rw [hal]; exact hacc⟩
  rw [hal]
  exact congrArg (fun u => u.setReg8 .al v) ht

/-- IN of a word: AX is the value of the one port read. -/
theorem inp_word {f : PortForm} {s : State} (p : Word) (h : s.accepts)
    (hexec : exec (.inp f) s = ((ioRead16 p s).andThen fun v t => t.setReg16 .ax v).out) :
    ∃ t, exec (.inp f) s = .next t ∧ t = (s.setReg16 .ax t.gpr.ax).withBiu t
      ∧ s.accessed t (.portRead16 p t.gpr.ax) := by
  obtain ⟨v, t, e, ht, hacc⟩ := (ioRead16_answers p h).exists_ok
  exact ⟨t.setReg16 .ax v, by rw [hexec, e]; rfl, congrArg (fun u => u.setReg16 .ax v) ht, hacc⟩

theorem outp_of_answers {f : PortForm} {s : State} {r : Res Unit} {o : BusOp} (hexec : exec (.outp f) s = r.out)
    (h : r.Answers fun _ t => t = s.withBiu t ∧ s.accessed t o) :
    ∃ t, exec (.outp f) s = .next t ∧ t = s.withBiu t ∧ s.accessed t o := by
  obtain ⟨_, t, e, ht⟩ := h.exists_ok
  exact ⟨t, by rw [hexec, e]; rfl, ht⟩

/-! ## The flags image -/

theorem lowByte_eq_ofNat (v : Word) : lowByte v = BitVec.ofNat 8 (v.toNat % 256) := by
  apply BitVec.eq_of_toNat_eq
  simp [lowByte]

/-- SAHF loads from AH the flags that the low byte of the image holds, and keeps the others (40_data_transfer.md R100). -/
theorem sahfFlags_eq_loadFlags (ah : Byte) (f : Flags) :
    sahfFlags ah f = { loadFlags (BitVec.ofNat 16 ah.toNat) with tf := f.tf, ifl := f.ifl, df := f.df, ofl := f.ofl } := by
  simp [sahfFlags, loadFlags, BitVec.ofNat_toNat]

/-- Of a loaded word the image keeps the bits of the nine flags. -/
theorem flagsImage_loadFlags (v : Word) : flagsImage (loadFlags v) = (v &&& 0x0FD5) ||| 0xF002 := by
  apply BitVec.eq_of_getLsbD_eq
  intro i hi
  have hflags : (0x0FD5 : Word).getLsbD i = (decide (i = 0) || decide (i = 2) || decide (i = 4) || decide (i = 6)
      || decide (i = 7) || decide (i = 8) || decide (i = 9) || decide (i = 10) || decide (i = 11)) := by
    revert i
    decide
  have hbit (b : Bool) (n : Nat) : (flagBit b n).getLsbD i = (b && decide (i = n)) := by
    rw [BitVec.getLsbD_eq_getElem hi, flagBit_getElem _ _ hi]
  simp only [flagsImage, loadFlags, BitVec.getLsbD_or, BitVec.getLsbD_and, hbit]
  rw [hflags]
  grind

/-- A flag put at a position that is clear adds its weight. -/
theorem toNat_or_flagBit {v : Word} (b : Bool) {n : Nat} (hn : n < 16) (hv : v[n] = false) :
    (v ||| flagBit b n).toNat = v.toNat + 2 ^ n * b.toNat := by
  cases b with
  | false => simp [flagBit]
  | true =>
    have hdisjoint : v &&& flagBit true n = 0#16 := by
      ext i hi
      rw [BitVec.getElem_and, flagBit_getElem _ _ hi]
      by_cases h : i = n
      · subst h
        simp [hv]
      · simp [h]
    have hweight : (flagBit true n).toNat = 2 ^ n := by
      simp [flagBit, Nat.shiftLeft_eq, Nat.mod_eq_of_lt (Nat.pow_lt_pow_right (by decide : 1 < 2) hn)]
    rw [← BitVec.add_eq_or_of_and_eq_zero _ _ hdisjoint, BitVec.toNat_add_of_and_eq_zero hdisjoint, hweight,
      Bool.toNat_true, Nat.mul_one]

/-- The image is the sum of its bits: no two flags share a position. -/
theorem flagsImage_toNat (f : Flags) :
    (flagsImage f).toNat = 0xF002 + f.cf.toNat + 4 * f.pf.toNat + 16 * f.af.toNat + 64 * f.zf.toNat
      + 128 * f.sf.toNat + 256 * f.tf.toNat + 512 * f.ifl.toNat + 1024 * f.df.toNat + 2048 * f.ofl.toNat := by
  simp [flagsImage, -BitVec.toNat_or, toNat_or_flagBit, flagBit_getElem]

/-! ## Loops -/

theorem State.branch_eq_ite (s : State) (taken : Bool) (rel : Byte) :
    s.branch taken rel = if taken = true then s.jumpTo (BitVec.ofInt 16 (s.ip.toNat + rel.toInt)) else s := by
  split
  · next h => exact State.branch_taken h rel
  · next h => exact State.branch_not_taken h rel

/-- CX counted down is 0 exactly when it was 1. -/
theorem sub_one_ne_zero_iff (v : Word) : v - 1 ≠ 0 ↔ v ≠ 1 := by
  rw [ne_eq, sub_eq_zero]

/-! ## The obligations -/

/-- Settles O3: each word is read off the opcode map. -/
theorem opcodeWords : Obligations.OpcodeWords := ⟨rfl, rfl, rfl, rfl, rfl, rfl, rfl, rfl, rfl⟩

/-- Settles O4: the image as a sum, its two round trips, and its low byte in AH. -/
theorem flagsImageAndLoad : Obligations.FlagsImage :=
  ⟨flagsImage_toNat, loadFlags_flagsImage, flagsImage_loadFlags, fun s =>
    ⟨congrArg (fun v => Host.Outcome.next (s.setReg8 .ah v)) (lowByte_eq_ofNat _),
      congrArg (fun f => Host.Outcome.next (s.setFlags f)) (sahfFlags_eq_loadFlags _ _)⟩⟩

/-- Settles O35: 90h + r is an exchange of two registers, and 90h itself leaves AX as it is. -/
theorem exchange_swaps : Obligations.Exchange := by
  refine fun s => ⟨fun r => ?_, fun h => ⟨fun e g => .of_answers rfl (exchange_answers _ _ h),
    fun e g => .of_answers rfl (exchange_answers _ _ h)⟩⟩
  cases r <;> exact ⟨_, rfl, rfl⟩

/-- Settles O36: a move from the table byte, the address itself, and a far pointer. -/
theorem tableAndPointerLoads : Obligations.TableAndPointerLoads := by
  intro s h
  have hindex : (s.reg8 .al).setWidth 16 = BitVec.ofNat 16 (s.reg8 .al).toNat := (BitVec.ofNat_toNat ..).symm
  refine ⟨?_, fun g m => ⟨_, rfl, rfl⟩, fun g m => .of_answers rfl (loadFar_bind m h fun b => ⟨b, rfl⟩),
    fun g m => .of_answers rfl (loadFar_bind m h fun b => ⟨b, rfl⟩)⟩
  rw [← hindex]
  exact .of_answers rfl (moveTo_answers (.r8 .al) (.place (.m8 _ _)) h)

/-- Settles O37: one port transaction after a fill point, of the width of the form. -/
theorem portTransfers : Obligations.PortTransfers := by
  intro s h
  exact ⟨fun p => ⟨inp_byte _ h rfl, inp_word _ h rfl, outp_of_answers rfl (ioWrite8_answers _ _ h),
      outp_of_answers rfl (ioWrite16_answers _ _ h)⟩,
    inp_byte _ h rfl, inp_word _ h rfl, outp_of_answers rfl (ioWrite8_answers _ _ h),
    outp_of_answers rfl (ioWrite16_answers _ _ h)⟩

/-- Settles O53: each is a branch, on CX as counted down. -/
theorem loopsAndJumps : Obligations.LoopsAndJumps := by
  intro s rel
  have hcx : (s.countDown.gpr.cx != 0) = true ↔ s.gpr.cx ≠ 1 := bne_iff_ne.trans (sub_one_ne_zero_iff _)
  refine ⟨?loop, ?loope, ?loopne, ?jcxz, ?jmpShort, fun d => rfl, fun off seg => rfl⟩
  case loop =>
    exact congrArg Host.Outcome.next ((State.branch_eq_ite ..).trans (if_congr hcx rfl rfl))
  case loope =>
    refine congrArg Host.Outcome.next ((State.branch_eq_ite ..).trans (if_congr ?_ rfl rfl))
    rw [Bool.and_eq_true, hcx]
  case loopne =>
    refine congrArg Host.Outcome.next ((State.branch_eq_ite ..).trans (if_congr ?_ rfl rfl))
    rw [Bool.and_eq_true, Bool.not_eq_true', hcx]
  case jcxz => exact congrArg Host.Outcome.next ((State.branch_eq_ite ..).trans (if_congr beq_iff_eq rfl rfl))
  case jmpShort =>
    exact congrArg Host.Outcome.next ((State.branch_eq_ite ..).trans (if_congr (iff_of_true rfl trivial) rfl rfl))

/-- Settles O54: the target is read first; then the pushes, on the accepting bus. -/
theorem indirectJumpsAndCalls : Obligations.IndirectJumpsAndCalls := by
  refine fun s h => ⟨fun e => .of_answers rfl ((place16 e s).read_bind h fun b => ⟨b, rfl⟩),
    fun m => .of_answers rfl (loadFar_bind m h fun b => ⟨b, rfl⟩),
    fun d => .of_answers rfl (push16_bind .exec _ h fun b => ⟨b, rfl⟩),
    fun e => .of_answers rfl ((place16 e s).read_bind h fun b =>
      push16_bind .exec _ (State.accepts_of_eq h rfl) fun b' => ⟨b', rfl⟩),
    fun off seg => .of_answers rfl (callFarTo_answers off seg s h),
    fun m => .of_answers rfl (loadFar_bind m h fun b => callFarTo_answers _ _ b h)⟩

end Sys2Proof.Machine
end

section
/-! SUPPORT. The encoder inverts the decoder: for each way of reading bytes and each operand layout, what is decoded
encodes to the bytes read, and no more than five bytes after the opcode are asked for (30_encoding.md R62). Then the proof
of the obligation, one case per opcode. -/

namespace Sys2Proof

open Machine

/-! ## Inverse readings -/

/-- `l` are the bytes of the instruction `i`, one the decoder may give in this context. -/
def Encodes (rep : Bool) (i : Instr) (l : List Byte) : Prop := i.wf = true ∧ repContext rep i ∧ encode i = l

/-- `d` is decoded from `bs` after the bytes `front` were read: bytes run out among fewer than `n`, or what is decoded
encodes to `front` and the bytes read of `bs`. -/
def Inverse (n : Nat) (rep : Bool) (front bs : List Byte) (d : Decoded) : Prop :=
  (d = .error .truncated ∧ bs.length < n)
    ∨ ∃ i l rest, d = .ok (i, rest) ∧ Encodes rep i l ∧ l ++ rest = front ++ bs

/-- The bytes of an `r/m` operand whose width is not known. -/
def encRaw (reg : BitVec 3) : RawRm → List Byte
  | .reg c => [modrm 3 reg c]
  | .mem m => encMem reg m

/-! ## Register numbers and ModRM fields -/

theorem Reg8.code_ofCode (c : BitVec 3) : (Reg8.ofCode c).code = c := by decide +revert

theorem Reg16.code_ofCode (c : BitVec 3) : (Reg16.ofCode c).code = c := by decide +revert

theorem Base.code_ofCode (c : BitVec 3) : (Base.ofCode c).code = c := by decide +revert

theorem encRm8_b (reg : BitVec 3) (e : RawRm) : encRm8 reg e.b = encRaw reg e := by
  cases e with
  | reg c => exact congrArg (fun c => [modrm 3 reg c]) (Reg8.code_ofCode c)
  | mem m => rfl

theorem encRm16_w (reg : BitVec 3) (e : RawRm) : encRm16 reg e.w = encRaw reg e := by
  cases e with
  | reg c => exact congrArg (fun c => [modrm 3 reg c]) (Reg16.code_ofCode c)
  | mem m => rfl

theorem RawRm.b_wf {e : RawRm} (he : e.wf = true) : e.b.wf = true := by
  cases e with
  | reg c => rfl
  | mem m => exact he

theorem RawRm.w_wf {e : RawRm} (he : e.wf = true) : e.w.wf = true := by
  cases e with
  | reg c => rfl
  | mem m => exact he

/-- A ModRM byte is made of its fields. -/
theorem modrm_fields (m : Byte) : modrm (m.extractLsb' 6 2) (m.extractLsb' 3 3) (m.extractLsb' 0 3) = m := by
  decide +revert

theorem bitVec2_cases (x : BitVec 2) : x = 0 ∨ x = 1 ∨ x = 2 ∨ x = 3 := by decide +revert

/-- Under `mod = 00` the number of BP stands for a direct address. -/
theorem Base.ofCode_eq_bp (c : BitVec 3) (h : Base.ofCode c = .bp) : c = 6 := by
  rw [← Base.code_ofCode c, h]
  rfl

/-! ## Reading bytes -/

section
variable {n : Nat} {rep : Bool} {front bs : List Byte} {d : Decoded}

theorem Inverse.ok {i : Instr} (h : Encodes rep i front) : Inverse n rep front bs (.ok (i, bs)) :=
  .inr ⟨i, front, bs, rfl, h, rfl⟩

theorem Inverse.mono {m : Nat} (h : Inverse n rep front bs d) (hn : n ≤ m) : Inverse m rep front bs d :=
  h.imp_left fun ⟨herr, hlen⟩ => ⟨herr, lt_of_lt_of_le hlen hn⟩

theorem Inverse.takeByte {k : Byte → List Byte → Decoded}
    (h : ∀ b r, Inverse n rep (front ++ [b]) r (k b r)) : Inverse (n + 1) rep front bs (takeByte bs k) := by
  cases bs with
  | nil => exact .inl ⟨rfl, n.succ_pos⟩
  | cons b r =>
    refine (h b r).imp (fun ⟨herr, hlen⟩ => ⟨herr, Nat.succ_lt_succ hlen⟩) ?_
    rintro ⟨i, l, rest, hd, hi, hl⟩
    exact ⟨i, l, rest, hd, hi, by rw [hl, List.append_assoc, List.singleton_append]⟩

theorem Inverse.takeWord {k : Word → List Byte → Decoded}
    (h : ∀ v r, Inverse n rep (front ++ wordBytes v) r (k v r)) : Inverse (n + 2) rep front bs (takeWord bs k) := by
  refine .takeByte fun lo r => .takeByte fun hi r => ?_
  have hbytes : front ++ [lo] ++ [hi] = front ++ wordBytes (hi ++ lo) := by
    rw [List.append_assoc, List.singleton_append]
    exact congrArg₂ (fun a b => front ++ [a, b]) (lowByte_wordOf hi lo).symm (highByte_wordOf hi lo).symm
  rw [hbytes]
  exact h _ r

theorem Inverse.takeRm {k : BitVec 3 → RawRm → List Byte → Decoded}
    (h : ∀ reg e r, e.wf = true → Inverse n rep (front ++ encRaw reg e) r (k reg e r)) :
    Inverse (n + 3) rep front bs (takeRm bs k) := by
  refine .takeByte fun m r => ?_
  obtain ⟨md, reg, rm, rfl⟩ : ∃ md reg rm, m = modrm md reg rm := ⟨_, _, _, (modrm_fields m).symm⟩
  simp only [modrm_mod, modrm_reg, modrm_rm]
  have hcode := Base.code_ofCode rm
  rcases bitVec2_cases md with rfl | rfl | rfl | rfl
  case inl =>
    generalize hb : Base.ofCode rm = b at hcode
    cases b with
    | bp =>
      rw [Base.ofCode_eq_bp rm hb]
      refine .takeWord fun d r => ?_
      rw [List.append_assoc]
      exact h reg (.mem (.direct d)) r rfl
    | bxSi | bxDi | bpSi | bpDi | si | di | bx =>
      rw [← hcode]
      exact (h reg (.mem (.base _)) r rfl).mono (by omega)
  case inr.inl =>
    refine (Inverse.takeByte (n := n) fun d r => ?_).mono (by omega)
    rw [List.append_assoc]
    have henc := h reg (.mem (.disp8 (Base.ofCode rm) d)) r rfl
    rw [encRaw, encMem, hcode] at henc
    exact henc
  case inr.inr.inl =>
    refine .takeWord fun d r => ?_
    rw [List.append_assoc]
    have henc := h reg (.mem (.disp16 (Base.ofCode rm) d)) r rfl
    rw [encRaw, encMem, hcode] at henc
    exact henc
  case inr.inr.inr => exact (h reg (.reg rm) r rfl).mono (by omega)

/-! ## Operand layouts (R70) -/

theorem Inverse.withIb {mk : Byte → Instr} (h : ∀ v, Encodes rep (mk v) (front ++ [v])) :
    Inverse 5 rep front bs (withIb mk bs) :=
  .takeByte fun v _ => .ok (h v)

theorem Inverse.withIw {mk : Word → Instr} (h : ∀ v, Encodes rep (mk v) (front ++ wordBytes v)) :
    Inverse 5 rep front bs (withIw mk bs) :=
  .takeWord fun v _ => .ok (h v)

theorem Inverse.withAp {mk : Word → Word → Instr}
    (h : ∀ off seg, Encodes rep (mk off seg) (front ++ wordBytes off ++ wordBytes seg)) :
    Inverse 5 rep front bs (withAp mk bs) :=
  .takeWord fun off _ => Inverse.takeWord (n := 1) fun seg _ => .ok (h off seg)

theorem Inverse.raw {mk : BitVec 3 → RawRm → Instr}
    (h : ∀ reg e, e.wf = true → Encodes rep (mk reg e) (front ++ encRaw reg e)) :
    Inverse 5 rep front bs (Sys2Proof.takeRm bs fun reg e r => .ok (mk reg e, r)) :=
  .takeRm fun reg e _ he => .ok (h reg e he)

theorem Inverse.rm8 {mk : BitVec 3 → Rm8 → Instr}
    (h : ∀ reg e, e.wf = true → Encodes rep (mk reg e) (front ++ encRm8 reg e)) :
    Inverse 5 rep front bs (Sys2Proof.takeRm bs fun reg e r => .ok (mk reg e.b, r)) :=
  .raw fun reg e he => encRm8_b reg e ▸ h reg e.b (RawRm.b_wf he)

theorem Inverse.rm16 {mk : BitVec 3 → Rm16 → Instr}
    (h : ∀ reg e, e.wf = true → Encodes rep (mk reg e) (front ++ encRm16 reg e)) :
    Inverse 5 rep front bs (Sys2Proof.takeRm bs fun reg e r => .ok (mk reg e.w, r)) :=
  .raw fun reg e he => encRm16_w reg e ▸ h reg e.w (RawRm.w_wf he)

theorem Inverse.rm8Byte {mk : BitVec 3 → Rm8 → Byte → Instr}
    (h : ∀ reg e i, e.wf = true → Encodes rep (mk reg e i) (front ++ encRm8 reg e ++ [i])) :
    Inverse 5 rep front bs
      (Sys2Proof.takeRm bs fun reg e r => Sys2Proof.takeByte r fun i r => .ok (mk reg e.b i, r)) :=
  .takeRm fun reg e _ he => .takeByte fun i _ => .ok (encRm8_b reg e ▸ h reg e.b i (RawRm.b_wf he))

theorem Inverse.rm16Byte {mk : BitVec 3 → Rm16 → Byte → Instr}
    (h : ∀ reg e i, e.wf = true → Encodes rep (mk reg e i) (front ++ encRm16 reg e ++ [i])) :
    Inverse 5 rep front bs
      (Sys2Proof.takeRm bs fun reg e r => Sys2Proof.takeByte r fun i r => .ok (mk reg e.w i, r)) :=
  .takeRm fun reg e _ he => .takeByte fun i _ => .ok (encRm16_w reg e ▸ h reg e.w i (RawRm.w_wf he))

theorem Inverse.rm16Word {mk : BitVec 3 → Rm16 → Word → Instr}
    (h : ∀ reg e i, e.wf = true → Encodes rep (mk reg e i) (front ++ encRm16 reg e ++ wordBytes i)) :
    Inverse 5 rep front bs
      (Sys2Proof.takeRm bs fun reg e r => Sys2Proof.takeWord r fun i r => .ok (mk reg e.w i, r)) :=
  .takeRm fun reg e _ he => .takeWord fun i _ => .ok (encRm16_w reg e ▸ h reg e.w i (RawRm.w_wf he))

theorem Inverse.ebGb {mk : Rm8 → Reg8 → Instr}
    (h : ∀ e g, e.wf = true → Encodes rep (mk e g) (front ++ encRm8 g.code e)) :
    Inverse 5 rep front bs (withEbGb mk bs) :=
  .rm8 (mk := fun c e => mk e (Reg8.ofCode c)) fun reg e he => by
    have henc := h e (Reg8.ofCode reg) he
    rwa [Reg8.code_ofCode] at henc

theorem Inverse.evGv {mk : Rm16 → Reg16 → Instr}
    (h : ∀ e g, e.wf = true → Encodes rep (mk e g) (front ++ encRm16 g.code e)) :
    Inverse 5 rep front bs (withEvGv mk bs) :=
  .rm16 (mk := fun c e => mk e (Reg16.ofCode c)) fun reg e he => by
    have henc := h e (Reg16.ofCode reg) he
    rwa [Reg16.code_ofCode] at henc

theorem Inverse.memOnly {mk : Reg16 → Mem → Instr} {mkReg : Reg16 → Reg16 → Instr}
    (h : ∀ g m, m.wf = true → Encodes rep (mk g m) (front ++ encMem g.code m))
    (hreg : ∀ g r, Encodes rep (mkReg g r) (front ++ [modrm 3 g.code r.code])) :
    Inverse 5 rep front bs (withMemOnly mk mkReg bs) := by
  refine .takeRm fun reg e r he => ?_
  cases e with
  | mem m =>
    refine .ok (i := mk (Reg16.ofCode reg) m) ?_
    have henc := h (Reg16.ofCode reg) m he
    rwa [Reg16.code_ofCode] at henc
  | reg c =>
    refine .ok (i := mkReg (Reg16.ofCode reg) (Reg16.ofCode c)) ?_
    have henc := hreg (Reg16.ofCode reg) (Reg16.ofCode c)
    rwa [Reg16.code_ofCode, Reg16.code_ofCode] at henc

/-- The forms that AND, OR and XOR have. -/
theorem Machine.AluOp.encodes (k : AluOp) {f : AluForm} (hf : f.wf = true) (hlogic : f.logic = true) :
    Encodes rep (k.instr f) (encAlu k.code f) := by
  cases k with
  | and | or | xor => exact ⟨Bool.and_eq_true_iff.2 ⟨hf, hlogic⟩, trivial, rfl⟩
  | add | adc | sbb | sub | cmp => exact ⟨hf, trivial, rfl⟩

/-- The six columns of a two-operand ALU instruction. -/
theorem Inverse.aluCol (k : AluOp) {col : Nat} (hcol : col < 6) :
    Inverse 5 rep [BitVec.ofNat 8 (8 * k.code.toNat + col)] bs (aluCol k.instr col bs) := by
  have hop : BitVec.ofNat 8 (8 * k.code.toNat + col) = (0 : BitVec 2) ++ k.code ++ BitVec.ofNat 3 col := by
    interval_cases col <;> cases k <;> rfl
  rw [hop]
  interval_cases col <;> simp only [Sys2Proof.aluCol]
  · exact .ebGb fun e g he => k.encodes (f := .ebGb e g) he rfl
  · exact .evGv fun e g he => k.encodes (f := .evGv e g) he rfl
  · exact .ebGb fun e g he => k.encodes (f := .gbEb g e) he rfl
  · exact .evGv fun e g he => k.encodes (f := .gvEv g e) he rfl
  · exact .withIb fun i => k.encodes (f := .alIb i) rfl rfl
  · exact .withIw fun i => k.encodes (f := .axIv i) rfl rfl

/-- They stand in the low half of a row of the opcode map, or in its high half. -/
theorem Inverse.aluLow (k : AluOp) {r col : Nat} (hr : r = 8 * k.code.toNat := by rfl) (hcol : col < 6 := by decide) :
    Inverse 5 rep [BitVec.ofNat 8 (r + col)] bs (Sys2Proof.aluCol k.instr col bs) :=
  hr ▸ .aluCol k hcol

theorem Inverse.aluHigh (k : AluOp) {r col : Nat} (hr : r + 8 = 8 * k.code.toNat := by rfl)
    (hcol : col < 6 := by decide) :
    Inverse 5 rep [BitVec.ofNat 8 (r + (col + 8))] bs (Sys2Proof.aluCol k.instr col bs) := by
  rw [Nat.add_comm col, ← Nat.add_assoc, hr]
  exact .aluCol k hcol

end

/-! ## Groups selected by the `reg` field (R74) -/

section
variable {rep : Bool} {bs : List Byte} (reg : BitVec 3)

theorem encodes_grp1 {f : AluForm} (hf : f.wf = true) (hlogic : f.logic = true) :
    Encodes rep (grp1 reg f) (encAlu reg f) := by
  rcases bitVec3_cases reg with rfl | rfl | rfl | rfl | rfl | rfl | rfl | rfl
  · exact AluOp.encodes .add hf hlogic
  · exact AluOp.encodes .or hf hlogic
  · exact AluOp.encodes .adc hf hlogic
  · exact AluOp.encodes .sbb hf hlogic
  · exact AluOp.encodes .and hf hlogic
  · exact AluOp.encodes .sub hf hlogic
  · exact AluOp.encodes .xor hf hlogic
  · exact AluOp.encodes .cmp hf hlogic

theorem encodes_grp82 {e : Rm8} (i : Byte) (he : e.wf = true) :
    Encodes rep (grp82 reg e i) (0x82 :: encRm8 reg e ++ [i]) := by
  rcases bitVec3_cases reg with rfl | rfl | rfl | rfl | rfl | rfl | rfl | rfl <;> exact ⟨he, trivial, rfl⟩

theorem encodes_grp83 {e : Rm16} (i : Byte) (he : e.wf = true) :
    Encodes rep (grp83 reg e i) (0x83 :: encRm16 reg e ++ [i]) := by
  rcases bitVec3_cases reg with rfl | rfl | rfl | rfl | rfl | rfl | rfl | rfl <;> exact ⟨he, trivial, rfl⟩

theorem encodes_grp2 {f : ShiftForm} (hf : f.wf = true) : Encodes rep (grp2 reg f) (encShift reg f) := by
  rcases bitVec3_cases reg with rfl | rfl | rfl | rfl | rfl | rfl | rfl | rfl
  case inr.inr.inr.inr.inr.inr.inl => cases f <;> exact ⟨hf, trivial, rfl⟩
  all_goals exact ⟨hf, trivial, rfl⟩

/-- /2../7, in both contexts of R199. -/
theorem encodes_grp3 {f : RmForm} (hf : f.wf = true) (hreg : 2 ≤ reg.toNat) :
    Encodes rep (grp3 rep reg f) (encGrp3 reg f) := by
  rcases bitVec3_cases reg with rfl | rfl | rfl | rfl | rfl | rfl | rfl | rfl
  case inl | inr.inl => exact absurd hreg (by decide)
  all_goals cases rep <;> exact ⟨hf, by trivial, rfl⟩

theorem encodes_grp4 {e : Rm8} (he : e.wf = true) : Encodes rep (grp4 reg e) (0xFE :: encRm8 reg e) := by
  rcases bitVec3_cases reg with rfl | rfl | rfl | rfl | rfl | rfl | rfl | rfl <;> exact ⟨he, trivial, rfl⟩

/-- /3 and /5 look at the operand itself (47_undocumented.md R198). -/
theorem encodes_grp5 {e : RawRm} (he : e.wf = true) : Encodes rep (grp5 reg e) (0xFF :: encRaw reg e) := by
  have hword := RawRm.w_wf he
  rcases bitVec3_cases reg with rfl | rfl | rfl | rfl | rfl | rfl | rfl | rfl
  case inr.inr.inr.inl | inr.inr.inr.inr.inr.inl =>
    cases e with
    | mem m => exact ⟨he, trivial, rfl⟩
    | reg c => exact ⟨rfl, trivial, congrArg (fun c => [0xFF, modrm 3 _ c]) (Reg16.code_ofCode c)⟩
  all_goals exact ⟨hword, trivial, congrArg (List.cons 0xFF) (encRm16_w _ e)⟩

theorem encodes_grp8C {e : Rm16} (he : e.wf = true) : Encodes rep (grp8C reg e) (0x8C :: encRm16 reg e) := by
  rcases bitVec3_cases reg with rfl | rfl | rfl | rfl | rfl | rfl | rfl | rfl <;> exact ⟨he, trivial, rfl⟩

theorem encodes_grp8E {e : Rm16} (he : e.wf = true) : Encodes rep (grp8E reg e) (0x8E :: encRm16 reg e) := by
  rcases bitVec3_cases reg with rfl | rfl | rfl | rfl | rfl | rfl | rfl | rfl <;> exact ⟨he, trivial, rfl⟩

theorem encodes_grp8F {e : Rm16} (he : e.wf = true) : Encodes rep (grp8F reg e) (0x8F :: encRm16 reg e) := by
  rcases bitVec3_cases reg with rfl | rfl | rfl | rfl | rfl | rfl | rfl | rfl <;> exact ⟨he, trivial, rfl⟩

theorem encodes_grpC6 {e : Rm8} (i : Byte) (he : e.wf = true) :
    Encodes rep (grpC6 reg e i) (0xC6 :: encRm8 reg e ++ [i]) := by
  rcases bitVec3_cases reg with rfl | rfl | rfl | rfl | rfl | rfl | rfl | rfl <;> exact ⟨he, trivial, rfl⟩

theorem encodes_grpC7 {e : Rm16} (i : Word) (he : e.wf = true) :
    Encodes rep (grpC7 reg e i) (0xC7 :: encRm16 reg e ++ wordBytes i) := by
  rcases bitVec3_cases reg with rfl | rfl | rfl | rfl | rfl | rfl | rfl | rfl <;> exact ⟨he, trivial, rfl⟩

/-- The immediate of /0 and /1 alone (R72). -/
theorem inverse_decodeF6 : Inverse 5 rep [0xF6] bs (decodeF6 rep bs) := by
  refine .takeRm fun reg e r he => ?_
  have hbyte := RawRm.b_wf he
  rw [← encRm8_b]
  have hgroup (hreg : 2 ≤ reg.toNat) := encodes_grp3 (rep := rep) reg (f := .b e.b) hbyte hreg
  rcases bitVec3_cases reg with rfl | rfl | rfl | rfl | rfl | rfl | rfl | rfl
  case inl => exact .takeByte (n := 1) fun i r => .ok (i := .test (.ebIb e.b i)) ⟨hbyte, trivial, rfl⟩
  case inr.inl => exact .takeByte (n := 1) fun i r => .ok (i := .testAlias (.b e.b i)) ⟨hbyte, trivial, rfl⟩
  all_goals exact .ok (hgroup (by decide))

theorem inverse_decodeF7 : Inverse 5 rep [0xF7] bs (decodeF7 rep bs) := by
  refine .takeRm fun reg e r he => ?_
  have hword := RawRm.w_wf he
  rw [← encRm16_w]
  have hgroup (hreg : 2 ≤ reg.toNat) := encodes_grp3 (rep := rep) reg (f := .w e.w) hword hreg
  rcases bitVec3_cases reg with rfl | rfl | rfl | rfl | rfl | rfl | rfl | rfl
  case inl => exact .takeWord (n := 0) fun i r => .ok (i := .test (.evIv e.w i)) ⟨hword, trivial, rfl⟩
  case inr.inl => exact .takeWord (n := 0) fun i r => .ok (i := .testAlias (.w e.w i)) ⟨hword, trivial, rfl⟩
  all_goals exact .ok (hgroup (by decide))

end

/-! ## The rows of the opcode map (R73) -/

section
variable {rep : Bool} {bs : List Byte} {c : Nat} (hc : c < 16)
include hc

theorem row0_inverse : Inverse 5 rep [BitVec.ofNat 8 (0x00 + c)] bs (row0 c bs) := by
  match c with
  | 0 | 1 | 2 | 3 | 4 | 5 => exact .aluLow .add
  | 8 | 9 | 10 | 11 | 12 | 13 => exact .aluHigh .or
  | 6 | 7 | 14 | 15 => exact .ok ⟨rfl, trivial, rfl⟩
  | n + 16 => omega

theorem row1_inverse : Inverse 5 rep [BitVec.ofNat 8 (0x10 + c)] bs (row1 c bs) := by
  match c with
  | 0 | 1 | 2 | 3 | 4 | 5 => exact .aluLow .adc
  | 8 | 9 | 10 | 11 | 12 | 13 => exact .aluHigh .sbb
  | 6 | 7 | 14 | 15 => exact .ok ⟨rfl, trivial, rfl⟩
  | n + 16 => omega

theorem row2_inverse : Inverse 5 rep [BitVec.ofNat 8 (0x20 + c)] bs (row2 c bs) := by
  match c with
  | 0 | 1 | 2 | 3 | 4 | 5 => exact .aluLow .and
  | 8 | 9 | 10 | 11 | 12 | 13 => exact .aluHigh .sub
  | 6 | 7 | 14 | 15 => exact .ok ⟨rfl, trivial, rfl⟩
  | n + 16 => omega

theorem row3_inverse : Inverse 5 rep [BitVec.ofNat 8 (0x30 + c)] bs (row3 c bs) := by
  match c with
  | 0 | 1 | 2 | 3 | 4 | 5 => exact .aluLow .xor
  | 8 | 9 | 10 | 11 | 12 | 13 => exact .aluHigh .cmp
  | 6 | 7 | 14 | 15 => exact .ok ⟨rfl, trivial, rfl⟩
  | n + 16 => omega

theorem row4_inverse : Inverse 5 rep [BitVec.ofNat 8 (0x40 + c)] bs (row4 c bs) := by
  interval_cases c <;> exact .ok ⟨rfl, trivial, rfl⟩

theorem row5_inverse : Inverse 5 rep [BitVec.ofNat 8 (0x50 + c)] bs (row5 c bs) := by
  interval_cases c <;> exact .ok ⟨rfl, trivial, rfl⟩

theorem row6_inverse : Inverse 5 rep [BitVec.ofNat 8 (0x60 + c)] bs (row6 c bs) := by
  interval_cases c <;> exact .withIb fun _ => ⟨rfl, trivial, rfl⟩

theorem row7_inverse : Inverse 5 rep [BitVec.ofNat 8 (0x70 + c)] bs (row7 c bs) := by
  interval_cases c <;> exact .withIb fun _ => ⟨rfl, trivial, rfl⟩

theorem row8_inverse : Inverse 5 rep [BitVec.ofNat 8 (0x80 + c)] bs (row8 c bs) := by
  match c with
  | 0 =>
    simp only [row8]
    exact .rm8Byte (mk := fun reg e i => grp1 reg (.ebIb e i)) fun reg e i he => encodes_grp1 reg he rfl
  | 1 =>
    simp only [row8]
    exact .rm16Word (mk := fun reg e i => grp1 reg (.evIv e i)) fun reg e i he => encodes_grp1 reg he rfl
  | 2 =>
    simp only [row8]
    exact .rm8Byte fun reg e i he => encodes_grp82 reg i he
  | 3 =>
    simp only [row8]
    exact .rm16Byte fun reg e i he => encodes_grp83 reg i he
  | 4 | 6 | 8 | 10 =>
    simp only [row8]
    exact .ebGb fun _ _ he => ⟨he, trivial, rfl⟩
  | 5 | 7 | 9 | 11 =>
    simp only [row8]
    exact .evGv fun _ _ he => ⟨he, trivial, rfl⟩
  | 12 =>
    simp only [row8]
    exact .rm16 fun reg e he => encodes_grp8C reg he
  | 13 =>
    simp only [row8]
    exact .memOnly (fun _ _ hm => ⟨hm, trivial, rfl⟩) fun _ _ => ⟨rfl, trivial, rfl⟩
  | 14 =>
    simp only [row8]
    exact .rm16 fun reg e he => encodes_grp8E reg he
  | 15 =>
    simp only [row8]
    exact .rm16 fun reg e he => encodes_grp8F reg he
  | n + 16 => omega

theorem row9_inverse : Inverse 5 rep [BitVec.ofNat 8 (0x90 + c)] bs (row9 c bs) := by
  match c with
  | 10 => exact .withAp fun _ _ => ⟨rfl, trivial, rfl⟩
  | 0 | 1 | 2 | 3 | 4 | 5 | 6 | 7 | 8 | 9 | 11 | 12 | 13 | 14 | 15 => exact .ok ⟨rfl, trivial, rfl⟩
  | n + 16 => omega

theorem rowA_inverse : Inverse 5 rep [BitVec.ofNat 8 (0xA0 + c)] bs (rowA c bs) := by
  match c with
  | 0 | 1 | 2 | 3 | 9 => exact .withIw fun _ => ⟨rfl, trivial, rfl⟩
  | 8 => exact .withIb fun _ => ⟨rfl, trivial, rfl⟩
  | 4 | 5 | 6 | 7 | 10 | 11 | 12 | 13 | 14 | 15 => exact .ok ⟨rfl, trivial, rfl⟩
  | n + 16 => omega

theorem rowB_inverse : Inverse 5 rep [BitVec.ofNat 8 (0xB0 + c)] bs (rowB c bs) := by
  match c with
  | 0 | 1 | 2 | 3 | 4 | 5 | 6 | 7 => exact .withIb fun _ => ⟨rfl, trivial, rfl⟩
  | 8 | 9 | 10 | 11 | 12 | 13 | 14 | 15 => exact .withIw fun _ => ⟨rfl, trivial, rfl⟩
  | n + 16 => omega

theorem rowC_inverse : Inverse 5 rep [BitVec.ofNat 8 (0xC0 + c)] bs (rowC c bs) := by
  match c with
  | 0 | 2 | 8 | 10 =>
    simp only [rowC]
    exact .withIw fun _ => ⟨rfl, trivial, rfl⟩
  | 4 | 5 =>
    simp only [rowC]
    exact .memOnly (fun _ _ hm => ⟨hm, trivial, rfl⟩) fun _ _ => ⟨rfl, trivial, rfl⟩
  | 6 =>
    simp only [rowC]
    exact .rm8Byte fun reg e i he => encodes_grpC6 reg i he
  | 7 =>
    simp only [rowC]
    exact .rm16Word fun reg e i he => encodes_grpC7 reg i he
  | 13 =>
    simp only [rowC]
    exact .withIb fun _ => ⟨rfl, trivial, rfl⟩
  | 1 | 3 | 9 | 11 | 12 | 14 | 15 =>
    simp only [rowC]
    exact .ok ⟨rfl, trivial, rfl⟩
  | n + 16 => omega

theorem rowD_inverse : Inverse 5 rep [BitVec.ofNat 8 (0xD0 + c)] bs (rowD c bs) := by
  match c with
  | 0 =>
    simp only [rowD]
    exact .rm8 (mk := fun reg e => grp2 reg (.eb1 e)) fun reg e he => encodes_grp2 reg he
  | 1 =>
    simp only [rowD]
    exact .rm16 (mk := fun reg e => grp2 reg (.ev1 e)) fun reg e he => encodes_grp2 reg he
  | 2 =>
    simp only [rowD]
    exact .rm8 (mk := fun reg e => grp2 reg (.ebCl e)) fun reg e he => encodes_grp2 reg he
  | 3 =>
    simp only [rowD]
    exact .rm16 (mk := fun reg e => grp2 reg (.evCl e)) fun reg e he => encodes_grp2 reg he
  | 4 | 5 =>
    simp only [rowD]
    exact .withIb fun _ => ⟨rfl, trivial, rfl⟩
  | 6 | 7 =>
    simp only [rowD]
    exact .ok ⟨rfl, trivial, rfl⟩
  | 8 | 9 | 10 | 11 | 12 | 13 | 14 | 15 =>
    simp only [rowD]
    exact .rm16 fun _ _ he => ⟨he, trivial, rfl⟩
  | n + 16 => omega

theorem rowE_inverse : Inverse 5 rep [BitVec.ofNat 8 (0xE0 + c)] bs (rowE c bs) := by
  match c with
  | 0 | 1 | 2 | 3 | 4 | 5 | 6 | 7 | 11 => exact .withIb fun _ => ⟨rfl, trivial, rfl⟩
  | 8 | 9 => exact .withIw fun _ => ⟨rfl, trivial, rfl⟩
  | 10 => exact .withAp fun _ _ => ⟨rfl, trivial, rfl⟩
  | 12 | 13 | 14 | 15 => exact .ok ⟨rfl, trivial, rfl⟩
  | n + 16 => omega

theorem rowF_inverse : Inverse 5 rep [BitVec.ofNat 8 (0xF0 + c)] bs (rowF rep c bs) := by
  match c with
  | 6 =>
    simp only [rowF]
    exact inverse_decodeF6
  | 7 =>
    simp only [rowF]
    exact inverse_decodeF7
  | 14 =>
    simp only [rowF]
    exact .rm8 fun reg e he => encodes_grp4 reg he
  | 15 =>
    simp only [rowF]
    exact .raw fun reg e he => encodes_grp5 reg he
  | 0 | 1 | 2 | 3 | 4 | 5 | 8 | 9 | 10 | 11 | 12 | 13 =>
    simp only [rowF]
    exact .ok ⟨rfl, trivial, rfl⟩
  | n + 16 => omega

end

/-! ## The decoder -/

theorem decodeOp_inverse (rep : Bool) (op : Byte) (bs : List Byte) : Inverse 5 rep [op] bs (decodeOp rep op bs) := by
  have hop : op = BitVec.ofNat 8 (op.toNat / 16 * 16 + op.toNat % 16) := by
    rw [Nat.div_add_mod', BitVec.ofNat_toNat, BitVec.setWidth_eq]
  have hrow : op.toNat / 16 < 16 := by omega
  have hc : op.toNat % 16 < 16 := by omega
  rw [decodeOp]
  generalize op.toNat / 16 = r, op.toNat % 16 = c at *
  rw [hop]
  interval_cases r
  · exact row0_inverse hc
  · exact row1_inverse hc
  · exact row2_inverse hc
  · exact row3_inverse hc
  · exact row4_inverse hc
  · exact row5_inverse hc
  · exact row6_inverse hc
  · exact row7_inverse hc
  · exact row8_inverse hc
  · exact row9_inverse hc
  · exact rowA_inverse hc
  · exact rowB_inverse hc
  · exact rowC_inverse hc
  · exact rowD_inverse hc
  · exact rowE_inverse hc
  · exact rowF_inverse hc

theorem decode_inverse (rep : Bool) (bs : List Byte) : Inverse 6 rep [] bs (decode rep bs) :=
  .takeByte fun op r => decodeOp_inverse rep op r

namespace Machine

/-- Settles O2: bytes run out only among fewer than six, and what is decoded encodes to the bytes read. -/
theorem encodeOfDecode : Obligations.EncodeOfDecode := by
  intro rep bs
  rcases decode_inverse rep bs with ⟨herr, hlen⟩ | ⟨j, l, r, hok, ⟨hwf, hrep, henc⟩, hbytes⟩
  · exact ⟨fun h => absurd h (by omega), fun i rest h => by simp [herr] at h⟩
  · refine ⟨fun _ => ⟨j, r, hok⟩, fun i rest h => ?_⟩
    obtain ⟨rfl, rfl⟩ : j = i ∧ r = rest := by simpa [hok] using h
    exact ⟨hwf, hrep, by rw [henc]; exact hbytes⟩

end Machine

end Sys2Proof
end

section
/-! SUPPORT. The flags of sums and differences: what the machine computes from the bits of the operands and the result is
what the carry, the borrow and the signed range say (41_arithmetic.md R103 to R112). Then the proofs of the obligations on
ADD, ADC, SUB, SBB, CMP, INC, DEC, NEG, NOT and on the conditions after CMP. -/

namespace Sys2Proof.Machine

/-! ## Results as numbers -/

section
variable {w : Nat}

theorem toInt_ofNat_bool (hw : w = 8 ∨ w = 16) (k : Bool) : (BitVec.ofNat w k.toNat).toInt = k.toNat := by
  rcases hw with rfl | rfl <;> cases k <;> rfl

theorem ofNat_sumOf (a c : BitVec w) (k : Bool) :
    BitVec.ofNat w (sumOf a c k) = a + c + BitVec.ofNat w k.toNat := by
  simp [sumOf, BitVec.ofNat_add]

theorem ofInt_diffOf (a c : BitVec w) (k : Bool) : BitVec.ofInt w (diffOf a c k) = difference a c k := by
  simp only [diffOf, difference, sub_eq_add_neg, BitVec.ofInt_add, BitVec.ofInt_neg, BitVec.ofInt_natCast,
    BitVec.ofNat_toNat, BitVec.setWidth_eq]

/-- The signed result, wrapped into the signed range. -/
theorem toInt_sum (hw : w = 8 ∨ w = 16) (a c : BitVec w) (k : Bool) :
    (BitVec.ofNat w (sumOf a c k)).toInt = (a.toInt + c.toInt + k.toNat).bmod (2 ^ w) := by
  rw [ofNat_sumOf, BitVec.toInt_add, BitVec.toInt_add, toInt_ofNat_bool hw, Int.bmod_add_bmod]

theorem toInt_difference (hw : w = 8 ∨ w = 16) (a c : BitVec w) (k : Bool) :
    (difference a c k).toInt = (a.toInt - c.toInt - k.toNat).bmod (2 ^ w) := by
  rw [difference, BitVec.toInt_sub, BitVec.toInt_sub, toInt_ofNat_bool hw, Int.bmod_sub_bmod]

/-- The signed value of an operand is in the signed range. -/
theorem toInt_bounds (x : BitVec w) : -2 ^ (w - 1) ≤ x.toInt ∧ x.toInt < 2 ^ (w - 1) :=
  ⟨BitVec.le_toInt x, BitVec.toInt_lt⟩

theorem sign_eq (x : BitVec w) : x.getLsbD (w - 1) = decide (x.toInt < 0) := sfOf_eq x

/-- A number that leaves the signed range by no more than its size comes back with the other sign. -/
theorem bmod_neg_iff (hw : w = 8 ∨ w = 16) {x : Int} (hlo : -2 ^ w ≤ x) (hhi : x < 2 ^ w) :
    x.bmod (2 ^ w) < 0 ↔ ((x < 0) ↔ overflows w x = false) := by
  simp only [overflows, decide_eq_false_iff_not]
  rcases hw with rfl | rfl <;> norm_num [Int.bmod_def] at * <;> split <;> omega

/-- OF of a sum: the operands have one sign and the result the other. -/
theorem overflows_sum (hw : w = 8 ∨ w = 16) (a c : BitVec w) (k : Bool) :
    ((a ^^^ BitVec.ofNat w (sumOf a c k)) &&& (c ^^^ BitVec.ofNat w (sumOf a c k))).getLsbD (w - 1)
      = overflows w (a.toInt + c.toInt + k.toNat) := by
  have ha := toInt_bounds a
  have hc := toInt_bounds c
  have hk := k.toNat_le
  have hr := bmod_neg_iff hw (x := a.toInt + c.toInt + k.toNat) (by rcases hw with rfl | rfl <;> omega)
    (by rcases hw with rfl | rfl <;> omega)
  rw [← toInt_sum hw] at hr
  rw [BitVec.getLsbD_and, BitVec.getLsbD_xor, BitVec.getLsbD_xor, sign_eq, sign_eq, sign_eq, Bool.eq_iff_iff]
  simp only [hr, overflows, Bool.and_eq_true, Bool.xor_iff_ne, decide_eq_true_eq, ne_eq, decide_eq_decide,
    decide_eq_false_iff_not]
  rcases hw with rfl | rfl <;> omega

/-- OF of a difference: the operands have two signs and the result that of the subtrahend. -/
theorem overflows_difference (hw : w = 8 ∨ w = 16) (a c : BitVec w) (k : Bool) :
    ((a ^^^ c) &&& (a ^^^ difference a c k)).getLsbD (w - 1) = overflows w (a.toInt - c.toInt - k.toNat) := by
  have ha := toInt_bounds a
  have hc := toInt_bounds c
  have hk := k.toNat_le
  have hr := bmod_neg_iff hw (x := a.toInt - c.toInt - k.toNat) (by rcases hw with rfl | rfl <;> omega)
    (by rcases hw with rfl | rfl <;> omega)
  rw [← toInt_difference hw] at hr
  rw [BitVec.getLsbD_and, BitVec.getLsbD_xor, BitVec.getLsbD_xor, sign_eq, sign_eq, sign_eq, Bool.eq_iff_iff]
  simp only [hr, overflows, Bool.and_eq_true, Bool.xor_iff_ne, decide_eq_true_eq, ne_eq, decide_eq_decide,
    decide_eq_false_iff_not]
  rcases hw with rfl | rfl <;> omega

/-! ## The carry out of the low nibble -/

/-- Bit 4 of a sum differs from the sum of the operands' bits by the carry out of the low nibble. -/
theorem getLsbD_four_sum (hw : w = 8 ∨ w = 16) (a c : BitVec w) (k : Bool) :
    (a + c + BitVec.ofNat w k.toNat).getLsbD 4
      = (a.getLsbD 4 ^^ (c.getLsbD 4 ^^ decide (16 ≤ a.toNat % 16 + c.toNat % 16 + k.toNat))) := by
  have hk : BitVec.ofNat w k.toNat = BitVec.setWidth w (BitVec.ofBool k) := by
    rcases hw with rfl | rfl <;> cases k <;> rfl
  rw [hk, BitVec.getLsbD_add_add_bool (by rcases hw with rfl | rfl <;> decide)]
  rfl

theorem nibbleCarry_sum (hw : w = 8 ∨ w = 16) (a c : BitVec w) (k : Bool) :
    (a ^^^ c ^^^ BitVec.ofNat w (sumOf a c k)).getLsbD 4
      = decide (16 ≤ a.toNat % 16 + c.toNat % 16 + k.toNat) := by
  rw [ofNat_sumOf, BitVec.getLsbD_xor, BitVec.getLsbD_xor, getLsbD_four_sum hw]
  cases a.getLsbD 4 <;> cases c.getLsbD 4 <;> simp

/-- The minuend is the sum of the difference and what was taken away. -/
theorem difference_add (a c : BitVec w) (k : Bool) : difference a c k + c + BitVec.ofNat w k.toNat = a := by
  rw [difference]
  ring

theorem toNat_difference_mod (hw : w = 8 ∨ w = 16) (a c : BitVec w) (k : Bool) :
    (difference a c k).toNat % 16 = (a.toNat % 16 + 32 - c.toNat % 16 - k.toNat) % 16 := by
  have hk := k.toNat_le
  rcases hw with rfl | rfl <;> simp only [difference, BitVec.toNat_sub, BitVec.toNat_ofNat] <;> omega

/-- Read as a sum, the borrow of the low nibble is its carry. -/
theorem nibbleBorrow_difference (hw : w = 8 ∨ w = 16) (a c : BitVec w) (k : Bool) :
    (a ^^^ c ^^^ difference a c k).getLsbD 4 = decide (a.toNat % 16 < c.toNat % 16 + k.toNat) := by
  have hsum := getLsbD_four_sum hw (difference a c k) c k
  have hmod := toNat_difference_mod hw a c k
  have hk := k.toNat_le
  have hcarry : decide (16 ≤ (difference a c k).toNat % 16 + c.toNat % 16 + k.toNat)
      = decide (a.toNat % 16 < c.toNat % 16 + k.toNat) := by
    rw [decide_eq_decide]
    omega
  rw [difference_add] at hsum
  rw [BitVec.getLsbD_xor, BitVec.getLsbD_xor, hsum, hcarry]
  cases (difference a c k).getLsbD 4 <;> cases c.getLsbD 4 <;> simp

/-! ## The flags -/

theorem addFlags_eq_sumFlags (hw : w = 8 ∨ w = 16) (a c : BitVec w) (k : Bool) (f : Flags) :
    addFlags a c k f = sumFlags a c k f := by
  rw [addFlags, sumFlags, overflows_sum hw, nibbleCarry_sum hw, setSzp_eq_withSzp]
  rfl

theorem subFlags_eq_differenceFlags (hw : w = 8 ∨ w = 16) (a c : BitVec w) (k : Bool) (f : Flags) :
    subFlags a c k f = differenceFlags a c k f := by
  rw [subFlags, differenceFlags, ofInt_diffOf, overflows_difference hw, nibbleBorrow_difference hw, setSzp_eq_withSzp]

/-- ZF of a difference is equality. -/
theorem differenceFlags_zf (a c : BitVec w) (f : Flags) : (differenceFlags a c false f).zf = decide (a = c) := by
  have hd : difference a c false = a - c := by simp [difference]
  calc (differenceFlags a c false f).zf
    _ = decide ((a - c).toNat = (0#w).toNat) := by rw [← hd]; rfl
    _ = decide (a = c) := by rw [decide_eq_decide, BitVec.toNat_inj]; exact sub_eq_zero

/-- SF and OF of a difference differ exactly when it is negative before it wraps. -/
theorem differenceFlags_sf_bne_ofl (hw : w = 8 ∨ w = 16) (a c : BitVec w) (f : Flags) :
    ((differenceFlags a c false f).sf != (differenceFlags a c false f).ofl) = decide (a.toInt < c.toInt) := by
  have ha := toInt_bounds a
  have hc := toInt_bounds c
  have hr := bmod_neg_iff hw (x := a.toInt - c.toInt - false.toNat) (by rcases hw with rfl | rfl <;> simp <;> omega)
    (by rcases hw with rfl | rfl <;> simp <;> omega)
  have hsf : (differenceFlags a c false f).sf = decide ((a.toInt - c.toInt - false.toNat).bmod (2 ^ w) < 0) := by
    rw [← toInt_difference hw]
    rfl
  have hofl : (differenceFlags a c false f).ofl = overflows w (a.toInt - c.toInt - false.toNat) := rfl
  rw [hsf, hofl, Bool.eq_iff_iff]
  cases hover : overflows w (a.toInt - c.toInt - false.toNat) <;> rw [hover] at hr <;> simp at hr ⊢ <;> omega

/-- INC sets the flags of the sum with 1, and keeps CF (R110). -/
theorem incFlags_eq (hw : w = 8 ∨ w = 16) (a : BitVec w) (f : Flags) :
    incFlags a f = { sumFlags a 1 false f with cf := f.cf } := by
  have hr : BitVec.ofNat w (a.toNat + (1 : BitVec w).toNat + false.toNat) = a + 1 :=
    (ofNat_sumOf a 1 false).trans (by simp)
  have hofl : (a.toNat == 2 ^ (w - 1) - 1) = overflows w (a.toInt + (1 : BitVec w).toInt + false.toNat) := by
    rw [beq_eq_decide, overflows, decide_eq_decide]
    rcases hw with rfl | rfl <;> simp [BitVec.toInt_eq_toNat_cond] <;> omega
  have haf : (a.toNat % 16 == 15) = decide (16 ≤ a.toNat % 16 + (1 : BitVec w).toNat % 16 + false.toNat) := by
    rw [beq_eq_decide, decide_eq_decide]
    rcases hw with rfl | rfl <;> simp <;> omega
  rw [incFlags, sumFlags, hr, ← hofl, ← haf, setSzp_eq_withSzp]
  rfl

/-- DEC sets the flags of the difference with 1, and keeps CF (R111). -/
theorem decFlags_eq (hw : w = 8 ∨ w = 16) (a : BitVec w) (f : Flags) :
    decFlags a f = { differenceFlags a 1 false f with cf := f.cf } := by
  have hr : difference a 1 false = a - 1 := by simp [difference]
  have hofl : (a.toNat == 2 ^ (w - 1)) = overflows w (a.toInt - (1 : BitVec w).toInt - false.toNat) := by
    rw [beq_eq_decide, overflows, decide_eq_decide]
    rcases hw with rfl | rfl <;> simp [BitVec.toInt_eq_toNat_cond] <;> omega
  have haf : (a.toNat % 16 == 0) = decide (a.toNat % 16 < (1 : BitVec w).toNat % 16 + false.toNat) := by
    rw [beq_eq_decide, decide_eq_decide]
    rcases hw with rfl | rfl <;> simp
  rw [decFlags, differenceFlags, hr, ← hofl, ← haf, setSzp_eq_withSzp]
  rfl

/-- NEG sets the flags of the difference from 0 (R112). -/
theorem negFlags_eq (hw : w = 8 ∨ w = 16) (a : BitVec w) (f : Flags) :
    negFlags a f = differenceFlags 0 a false f := by
  have hr : difference 0 a false = 0 - a := by simp [difference]
  have hcf : (a.toNat != 0) = decide ((0 : BitVec w).toNat < a.toNat + false.toNat) := by
    simp [bne, beq_eq_decide, Nat.pos_iff_ne_zero]
  have hofl : (a.toNat == 2 ^ (w - 1)) = overflows w ((0 : BitVec w).toInt - a.toInt - false.toNat) := by
    rw [beq_eq_decide, overflows, decide_eq_decide]
    rcases hw with rfl | rfl <;> simp [BitVec.toInt_eq_toNat_cond] <;> omega
  have haf : (a.toNat % 16 != 0) = decide ((0 : BitVec w).toNat % 16 < a.toNat % 16 + false.toNat) := by
    simp [bne, beq_eq_decide, Nat.pos_iff_ne_zero]
  rw [negFlags, differenceFlags, hr, ← hcf, ← hofl, ← haf, setSzp_eq_withSzp]

end

/-! ## Operations on an accepting bus -/

section
variable {w : Nat} {s : State}

/-- An operand is a byte or a word. -/
theorem Place.width (p : Place w) : w = 8 ∨ w = 16 := by
  cases p with
  | r8 | m8 => exact .inl rfl
  | r16 | m16 => exact .inr rfl

theorem rmw_answers (p : Place w) (f : BitVec w → BitVec w) (fl : BitVec w → Flags → Flags) (h : s.accepts) :
    (rmw p f fl s).Answers fun _ t =>
      ∃ b, t = ((p.put (f (p.val s)) s).setFlags (fl (p.val s) s.flags)).withBiu b := by
  refine p.read_bind h fun b => p.write_bind _ (State.accepts_of_eq h rfl) fun b' => ⟨b', ?_⟩
  rw [p.put_withBiu, State.withBiu_withBiu, ← p.put_flags (f (p.val s)) s]
  rfl

/-- CMP reads both operands and writes none (41_arithmetic.md R109). -/
theorem cmpOn_answers (dst : Place w) (src : Src w) (h : s.accepts) :
    (aluOn .cmp dst src s).Answers fun _ t =>
      ∃ b, t = (s.setFlags (subFlags (dst.val s) (src.val s) false s.flags)).withBiu b := by
  refine dst.read_bind h fun b => src.read_bind (State.accepts_of_eq h rfl) fun b' => ?_
  rw [src.val_withBiu]
  exact ⟨_, rfl⟩

/-- An operation whose flags are all defined. -/
theorem Runs.of_alu {i : Instr} {k : AluOp} {dst : Place w} {src : Src w} {r : BitVec w} {f : Flags}
    (hexec : exec i s = (aluOn k dst src s).out) (h : s.accepts) (hk : k ≠ .cmp)
    (hr : aluResult k (dst.val s) (src.val s) s.flags.cf = r)
    (hf : ∀ af, aluFlags k (dst.val s) (src.val s) af s.flags = f) :
    Runs i s fun _ => (dst.put r s).setFlags f := by
  refine .of_answers hexec ((aluOn_answers hk dst src h).mono ?_ fun _ => id)
  rintro _ _ ⟨af, b, rfl⟩
  exact ⟨b, by rw [hr, hf]⟩

theorem incOn_answers (p : Place w) (h : s.accepts) :
    (incOn p s).Answers fun _ t => ∃ b, t = ((p.put (p.val s + 1) s).setFlags
      { sumFlags (p.val s) 1 false s.flags with cf := s.flags.cf }).withBiu b := by
  rw [← incFlags_eq p.width]
  exact rmw_answers p _ _ h

theorem decOn_answers (p : Place w) (h : s.accepts) :
    (decOn p s).Answers fun _ t => ∃ b, t = ((p.put (p.val s - 1) s).setFlags
      { differenceFlags (p.val s) 1 false s.flags with cf := s.flags.cf }).withBiu b := by
  rw [← decFlags_eq p.width]
  exact rmw_answers p _ _ h

end

theorem exec_incRow (r : Reg16) (s : State) : exec (incRow r) s = (incOn (.r16 r) s).out := by cases r <;> rfl

theorem exec_decRow (r : Reg16) (s : State) : exec (decRow r) s = (decOn (.r16 r) s).out := by cases r <;> rfl

theorem overRm_of_onForm {f : RmForm} {s : State} {P : (w : Nat) → Place w → Prop}
    (h : ∀ (w : Nat) (p : Place w), (∀ body : {w : Nat} → Place w → State → Res Unit,
      onForm f body s = body p s) → P w p) :
    overRm f s P := by
  cases f <;> exact h _ _ fun _ => rfl

/-! ## The obligations -/

/-- Settles O38: the sum and its flags, with or without the carry. -/
theorem addForms : Obligations.AddForms := by
  refine fun f s h => overAlu_of_aluOn fun w dst src hf => ⟨?add, ?adc⟩
  case add =>
    exact .of_alu (congrArg Res.out (hf .add)) h (by decide) (by simp [aluResult, ofNat_sumOf])
      fun _ => addFlags_eq_sumFlags dst.width _ _ _ _
  case adc =>
    exact .of_alu (congrArg Res.out (hf .adc)) h (by decide) rfl fun _ => addFlags_eq_sumFlags dst.width _ _ _ _

/-- Settles O39: the difference and its flags, with or without the borrow; CMP keeps the operand. -/
theorem subtractForms : Obligations.SubtractForms := by
  refine fun f s h => overAlu_of_aluOn fun w dst src hf => ⟨?sub, ?sbb, ?cmp⟩
  case sub =>
    exact .of_alu (congrArg Res.out (hf .sub)) h (by decide) (by simp [aluResult, ofInt_diffOf, difference])
      fun _ => subFlags_eq_differenceFlags dst.width _ _ _ _
  case sbb =>
    exact .of_alu (congrArg Res.out (hf .sbb)) h (by decide) (ofInt_diffOf _ _ _)
      fun _ => subFlags_eq_differenceFlags dst.width _ _ _ _
  case cmp =>
    rw [← subFlags_eq_differenceFlags dst.width]
    exact .of_answers (congrArg Res.out (hf .cmp)) (cmpOn_answers dst src h)

/-- Settles O40: the two rows of registers and the register/memory forms are one operation of their places. -/
theorem incrementDecrement : Obligations.IncrementDecrement := fun s h =>
  ⟨fun r => .of_answers (exec_incRow r s) (incOn_answers _ h), fun _ => .of_answers rfl (incOn_answers _ h),
    fun _ => .of_answers rfl (incOn_answers _ h), fun r => .of_answers (exec_decRow r s) (decOn_answers _ h),
    fun _ => .of_answers rfl (decOn_answers _ h), fun _ => .of_answers rfl (decOn_answers _ h)⟩

/-- Settles O41: NEG is the difference from 0, NOT the complement, which is the difference from all ones. -/
theorem negateComplement : Obligations.NegateComplement := by
  refine fun f s h => overRm_of_onForm fun w p hf => ⟨?neg, ?not⟩
  case neg =>
    rw [← negFlags_eq p.width]
    exact .of_answers (congrArg Res.out (hf negOn)) (rmw_answers p _ _ h)
  case not =>
    have hnot : BitVec.ofNat w (2 ^ w - 1 - (p.val s).toNat) = ~~~(p.val s) := by
      rw [← BitVec.toNat_not, BitVec.ofNat_toNat, BitVec.setWidth_eq]
    have hkeep : (p.put (~~~(p.val s)) s).setFlags s.flags = p.put (~~~(p.val s)) s := by
      rw [← p.put_flags (~~~(p.val s)) s]
      rfl
    rw [hnot, ← hkeep]
    exact .of_answers (congrArg Res.out (hf notOn)) (rmw_answers p _ _ h)

/-- Settles O52: CF is the unsigned order, ZF equality, and SF with OF the signed order. -/
theorem conditionsAfterCompare : Obligations.ConditionsAfterCompare := by
  intro w a c af g hw
  have hflags : aluFlags .cmp a c af g = differenceFlags a c false g := subFlags_eq_differenceFlags hw a c false g
  have hcf : (differenceFlags a c false g).cf = decide (a.toNat < c.toNat) := rfl
  have hzf := differenceFlags_zf a c g
  have hlt := differenceFlags_sf_bne_ofl hw a c g
  have hge : ((differenceFlags a c false g).sf == (differenceFlags a c false g).ofl)
      = decide (¬ a.toInt < c.toInt) := by
    rw [decide_not, ← hlt]
    exact (Bool.not_not _).symm
  have hnat : a = c ↔ a.toNat = c.toNat := BitVec.toNat_inj.symm
  have hint : a = c ↔ a.toInt = c.toInt := BitVec.toInt_inj.symm
  dsimp only
  rw [hflags]
  simp only [Cond.holds, hcf, hzf, hlt, hge, ← Bool.decide_or, ← Bool.decide_and, ← decide_not, decide_eq_decide]
  refine ⟨trivial, not_lt, ?be, ?a, trivial, trivial, trivial, not_lt, ?le, ?g⟩
  case be | a =>
    rw [hnat]
    omega
  case le | g =>
    rw [hint]
    omega

end Sys2Proof.Machine
end

section
/-! SUPPORT. Products, quotients and the decimal adjustments as numbers (41_arithmetic.md R113 to R124). Then the proofs of
the obligations on MUL, IMUL, DIV, IDIV and on the adjustment instructions. -/

namespace Sys2Proof.Machine

/-! ## Products (R113, R114) -/

/-- The high half of a product of two `w`-bit numbers is not 0 when the product passes `w` bits. -/
theorem highHalf_ne_zero {w p : Nat} (hp : p < 2 ^ (w + w)) :
    ((BitVec.ofNat (w + w) p).extractLsb' w w != 0) = decide (2 ^ w ≤ p) := by
  have hpos : 0 < 2 ^ w := Nat.two_pow_pos w
  have hhigh : ((BitVec.ofNat (w + w) p).extractLsb' w w).toNat = p / 2 ^ w := by
    rw [BitVec.extractLsb'_toNat, BitVec.toNat_ofNat, Nat.mod_eq_of_lt hp, Nat.shiftRight_eq_div_pow, Nat.mod_eq_of_lt]
    rw [Nat.div_lt_iff_lt_mul hpos, ← pow_add]
    exact hp
  rw [Bool.eq_iff_iff, bne_iff_ne, decide_eq_true_eq, ne_eq, ← BitVec.toNat_inj, hhigh, ← Nat.one_le_div_iff hpos]
  exact Nat.one_le_iff_ne_zero.symm

theorem toInt_lowHalf {w n : Nat} (h : w ≤ n) (x : BitVec n) : (x.extractLsb' 0 w).toInt = x.toInt.bmod (2 ^ w) := by
  rw [← BitVec.setWidth_eq_extractLsb' h, BitVec.toInt_setWidth, BitVec.toInt_eq_toNat_bmod,
    Int.bmod_bmod_of_dvd (pow_dvd_pow 2 h)]

/-- A product differs from its sign-extended low half when it leaves the signed range of the half. -/
theorem ne_signExtend_lowHalf {w : Nat} (hw : w = 8 ∨ w = 16) {p : Int} (hlo : -2 ^ (w + w - 1) ≤ p)
    (hhi : p < 2 ^ (w + w - 1)) :
    (BitVec.ofInt (w + w) p != ((BitVec.ofInt (w + w) p).extractLsb' 0 w).signExtend (w + w)) = overflows w p := by
  have hpos : 0 < w + w := by omega
  rw [Bool.eq_iff_iff, bne_iff_ne, ne_eq, ← BitVec.toInt_inj, BitVec.toInt_signExtend_of_le (Nat.le_add_left w w),
    toInt_lowHalf (Nat.le_add_left w w), BitVec.toInt_ofInt_eq_self hpos hlo hhi, overflows, decide_eq_true_eq]
  rcases hw with rfl | rfl <;> norm_num [Int.bmod_def] at * <;> split <;> omega

theorem product_toNat_lt {w : Nat} (a c : BitVec w) : a.toNat * c.toNat < 2 ^ (w + w) := by
  rw [pow_add]
  exact Nat.mul_lt_mul'' a.isLt c.isLt

theorem product_toInt_bounds {w : Nat} (hw : w = 8 ∨ w = 16) (a c : BitVec w) :
    -2 ^ (w + w - 1) ≤ a.toInt * c.toInt ∧ a.toInt * c.toInt < 2 ^ (w + w - 1) := by
  have ha := toInt_bounds a
  have hc := toInt_bounds c
  rcases hw with rfl | rfl <;> norm_num at * <;> constructor <;> nlinarith

/-! ## Quotients (R115, R116) -/

/-- The limits of an IDIV quotient, on its magnitude. -/
theorem idiv_limits {w : Nat} (q : Int) (hw : w = 8 ∨ w = 16) :
    (2 ^ (w - 1) - 1 < q ∨ q < -(2 ^ (w - 1) - 1)) ↔ 2 ^ (w - 1) - 1 < q.natAbs := by
  rcases hw with rfl | rfl <;> norm_num <;> omega

theorem idivResult_eq {w : Nat} (n d : Int) (hw : w = 8 ∨ w = 16) :
    idivResult w n d = if d = 0 ∨ 2 ^ (w - 1) - 1 < (n.tdiv d).natAbs then none
      else some (BitVec.ofInt w (n.tdiv d), BitVec.ofInt w (n.tmod d)) := by
  rw [Int.tmod_def, mul_comm]
  exact if_congr (or_congr Iff.rfl (idiv_limits _ hw)) rfl rfl

theorem toNat_append_word (hi lo : Word) : (hi ++ lo : BitVec 32).toNat = hi.toNat * 2 ^ 16 + lo.toNat := by
  rw [BitVec.toNat_append, ← Nat.shiftLeft_add_eq_or_of_lt lo.isLt, Nat.shiftLeft_eq]

/-- Quotient and remainder in the halves of AX. -/
def Gprs.storeQuotient8 (q r : Byte) (g : Gprs) : Gprs := (g.set8 .al q).set8 .ah r

/-- Quotient and remainder in AX and DX. -/
def Gprs.storeQuotient16 (q r : Word) (g : Gprs) : Gprs := (g.set .ax q).set .dx r

/-- The state after a division with this result: quotient and remainder stored, or the divide error raised; the six status
flags are drawn either way. -/
def State.divided {w : Nat} (store : BitVec w → BitVec w → Gprs → Gprs) (result : Option (BitVec w × BitVec w))
    (s : State) : State :=
  match result with
  | some (q, r) => { s with gpr := store q r s.gpr }.statusDrawn
  | none => s.statusDrawn.raise 0

/-- A division reads its operand, and its quotient fits or does not. -/
theorem Runs.of_division {w : Nat} {i : Instr} {s : State} {p : Place w} {bad : Prop} [Decidable bad] {q r : BitVec w}
    {quot : BitVec w → State → Option (BitVec w × BitVec w)} {store : BitVec w → BitVec w → Gprs → Gprs}
    (hexec : exec i s = ((p.read s).andThen fun v t => t.divided store (quot v t)).out) (h : s.accepts)
    (hquot : ∀ b, quot (p.val s) (s.withBiu b) = if bad then none else some (q, r)) :
    Runs i s fun t =>
      if bad then { s.setFlags (statusFrom t.flags s.flags) with internalReq := some 0 }
      else { s.setFlags (statusFrom t.flags s.flags) with gpr := store q r s.gpr } := by
  refine .of_res hexec (p.read_bind h fun b => ?_)
  dsimp only
  rw [hquot]
  by_cases hbad : bad
  · simp only [if_pos hbad]
    rfl
  · simp only [if_neg hbad]
    rfl

theorem exec_divByte (e : Rm8) (s : State) :
    exec (.div (.b e)) s = (((place8 e s).read s).andThen fun v t =>
      t.divided .storeQuotient8 (divResult 8 t.gpr.ax.toNat v.toNat)).out := by
  refine congrArg Res.out (congrArg (Res.andThen _) (funext₂ fun v t => ?_))
  cases divResult 8 t.gpr.ax.toNat v.toNat <;> rfl

theorem exec_divWord (e : Rm16) (s : State) :
    exec (.div (.w e)) s = (((place16 e s).read s).andThen fun v t =>
      t.divided .storeQuotient16 (divResult 16 (t.gpr.dx ++ t.gpr.ax).toNat v.toNat)).out := by
  refine congrArg Res.out (congrArg (Res.andThen _) (funext₂ fun v t => ?_))
  cases divResult 16 (t.gpr.dx ++ t.gpr.ax).toNat v.toNat <;> rfl

theorem exec_idivByte (e : Rm8) (s : State) :
    exec (.idiv (.b e)) s = (((place8 e s).read s).andThen fun v t =>
      t.divided .storeQuotient8 (idivResult 8 t.gpr.ax.toInt v.toInt)).out := by
  refine congrArg Res.out (congrArg (Res.andThen _) (funext₂ fun v t => ?_))
  cases idivResult 8 t.gpr.ax.toInt v.toInt <;> rfl

theorem exec_idivWord (e : Rm16) (s : State) :
    exec (.idiv (.w e)) s = (((place16 e s).read s).andThen fun v t =>
      t.divided .storeQuotient16 (idivResult 16 (t.gpr.dx ++ t.gpr.ax).toInt v.toInt)).out := by
  refine congrArg Res.out (congrArg (Res.andThen _) (funext₂ fun v t => ?_))
  cases idivResult 16 (t.gpr.dx ++ t.gpr.ax).toInt v.toInt <;> rfl

/-! ## The obligations on multiplication and division -/

/-- Settles O42: the whole product, and whether its high half says more than its low half. -/
theorem multiplyForms : Obligations.MultiplyForms := by
  intro s h
  refine ⟨fun e => ?mulByte, fun e => ?mulWord, fun e => ?imulByte, fun e => ?imulWord⟩ <;> dsimp only
  case mulByte =>
    rw [← highHalf_ne_zero (product_toNat_lt _ _)]
    exact .of_res rfl ((place8 e s).read_bind h fun b => rfl)
  case mulWord =>
    rw [← highHalf_ne_zero (product_toNat_lt _ _)]
    exact .of_res rfl ((place16 e s).read_bind h fun b => rfl)
  case imulByte =>
    obtain ⟨hlo, hhi⟩ := product_toInt_bounds (.inl rfl) (s.reg8 .al) ((place8 e s).val s)
    rw [← ne_signExtend_lowHalf (.inl rfl) hlo hhi]
    exact .of_res rfl ((place8 e s).read_bind h fun b => rfl)
  case imulWord =>
    obtain ⟨hlo, hhi⟩ := product_toInt_bounds (.inr rfl) (s.reg16 .ax) ((place16 e s).val s)
    rw [← ne_signExtend_lowHalf (.inr rfl) hlo hhi]
    exact .of_res rfl ((place16 e s).read_bind h fun b => rfl)

/-- Settles O43: the operand is read, and the quotient fits or does not. -/
theorem divideForms : Obligations.DivideForms := by
  intro s h
  refine ⟨fun e => .of_division (exec_divByte e s) h fun b => rfl, fun e => ?_,
    fun e => .of_division (exec_idivByte e s) h fun b => idivResult_eq _ _ (.inl rfl),
    fun e => .of_division (exec_idivWord e s) h fun b => idivResult_eq _ _ (.inr rfl)⟩
  dsimp only
  rw [State.reg16, State.reg16, Gprs.get, Gprs.get, ← toNat_append_word]
  exact .of_division (exec_divWord e s) h fun b => rfl

/-! ## The adjustments (R117 to R124) -/

/-- DAA adds what its two conditions ask for. -/
theorem daaResult_eq (al : Byte) (af cf : Bool) :
    daaResult al af cf
      = (BitVec.ofNat 8 (al.toNat + ((if (decide (9 < al.toNat % 16) || af) = true then 6 else 0)
          + if (decide (0x99 < al.toNat) || cf) = true then 0x60 else 0)),
        decide (0x99 < al.toNat) || cf, decide (9 < al.toNat % 16) || af) := by
  rw [daaResult]
  generalize (decide (9 < al.toNat % 16) || af) = low, (decide (0x99 < al.toNat) || cf) = high
  cases low <;> cases high <;> simp [BitVec.ofNat_add, BitVec.add_assoc]

/-- DAS takes away what its two conditions ask for. -/
theorem dasResult_eq (al : Byte) (af cf : Bool) :
    dasResult al af cf
      = (BitVec.ofNat 8 (al.toNat + 256 - ((if (decide (9 < al.toNat % 16) || af) = true then 6 else 0)
          + if (decide (0x99 < al.toNat) || cf) = true then 0x60 else 0)),
        (decide (0x99 < al.toNat) || cf) || ((decide (9 < al.toNat % 16) || af) && decide (al.toNat < 6)),
        decide (9 < al.toNat % 16) || af) := by
  rw [dasResult]
  generalize (decide (9 < al.toNat % 16) || af) = low
  cases low <;> cases cf <;> cases decide (0x99 < al.toNat) <;> simp <;> bv_omega

/-- After DAA or DAS only AL and the status flags differ, and SF, ZF and PF are those of AL. -/
theorem decimalAdjusted_eq (s : State) (result : Byte × Bool × Bool) (bcd : Bool) :
    let t := s.decimalAdjusted result bcd
    t = ((s.setReg8 .al (t.reg8 .al)).setFlags (withSzp (t.reg8 .al) (statusFrom t.flags s.flags))).withBiu t := by
  dsimp only
  rw [State.decimalAdjusted]
  generalize (if s.params.daaNonBcd = .any ∧ bcd = false then _ else result) = r
  have hal : State.reg8 (((s.setReg8 .al r.1).setFlags
      { setSzp r.1 s.flags with cf := r.2.1, af := r.2.2, ofl := s.freeBit 0 }).drew 3) .al = r.1 :=
    Gprs.get8_set8_same ..
  rw [hal, setSzp_eq_withSzp]
  rfl

/-- With DAA_NONBCD = algorithm the result is never drawn. -/
theorem decimalAdjusted_of_algorithm {s : State} (halg : s.params.daaNonBcd = .algorithm) (r : Byte × Bool × Bool)
    (bcd : Bool) :
    let t := s.decimalAdjusted r bcd
    t = ((s.setReg8 .al r.1).setFlags
      { withSzp r.1 s.flags with cf := r.2.1, af := r.2.2, ofl := t.flags.ofl }).withBiu t := by
  dsimp only
  rw [State.decimalAdjusted, if_neg (by simp [halg]), setSzp_eq_withSzp]
  rfl

/-! ### The halves of AX -/

theorem Gprs.set8_al_ah (g : Gprs) (u v : Byte) : (g.set8 .al v).set8 .ah u = g.set .ax (wordOf u v) :=
  congrArg (fun low => g.set .ax (wordOf u low)) (lowByte_wordOf _ v)

theorem Gprs.set8_ah_al (g : Gprs) (u v : Byte) : (g.set8 .ah u).set8 .al v = g.set .ax (wordOf u v) :=
  congrArg (fun high => g.set .ax (wordOf high v)) (highByte_wordOf u _)

/-- AH put back after AL is written. -/
theorem State.setReg8_al_ah_self (s : State) (v : Byte) :
    (s.setReg8 .al v).setReg8 .ah (s.reg8 .ah) = s.setReg8 .al v :=
  congrArg (fun g => { s with gpr := g }) (s.gpr.set8_al_ah _ v)

/-- The halves of AX in either order. -/
theorem State.setReg8_al_ah (s : State) (u v : Byte) :
    (s.setReg8 .al v).setReg8 .ah u = (s.setReg8 .ah u).setReg8 .al v :=
  congrArg (fun g => { s with gpr := g }) ((s.gpr.set8_al_ah u v).trans (s.gpr.set8_ah_al u v).symm)

theorem and_lowNibble (x : Byte) : x &&& 0x0F = BitVec.ofNat 8 (x.toNat % 16) := by
  decide +revert

/-- AAA and AAS keep the low nibble of AL. -/
theorem aaaResult_eq (al ah : Byte) (af : Bool) :
    aaaResult al ah af =
      if (decide (9 < al.toNat % 16) || af) = true then (BitVec.ofNat 8 ((al.toNat + 6) % 16), ah + 1, true)
      else (BitVec.ofNat 8 (al.toNat % 16), ah, false) := by
  have hsix : (al + 6).toNat % 16 = (al.toNat + 6) % 16 := by bv_omega
  rw [aaaResult]
  generalize (decide (9 < al.toNat % 16) || af) = adjust
  cases adjust
  · exact congrArg (·, ah, false) (and_lowNibble al)
  · exact congrArg (·, ah + 1, true) (by rw [← hsix]; exact and_lowNibble (al + 6))

theorem aasResult_eq (al ah : Byte) (af : Bool) :
    aasResult al ah af =
      if (decide (9 < al.toNat % 16) || af) = true then (BitVec.ofNat 8 ((al.toNat + 10) % 16), ah - 1, true)
      else (BitVec.ofNat 8 (al.toNat % 16), ah, false) := by
  have hsix : (al - 6).toNat % 16 = (al.toNat + 10) % 16 := by bv_omega
  rw [aasResult]
  generalize (decide (9 < al.toNat % 16) || af) = adjust
  cases adjust
  · exact congrArg (·, ah, false) (and_lowNibble al)
  · exact congrArg (·, ah - 1, true) (by rw [← hsix]; exact and_lowNibble (al - 6))

/-- AL spread over AX (R123). -/
theorem wordOf_sign (b : Byte) : wordOf (if b.getLsbD 7 then 0xFF else 0x00) b = BitVec.ofInt 16 b.toInt := by
  decide +revert

/-- AX spread over DX (R124). -/
theorem sign_word (v : Word) :
    (if v.getLsbD 15 = true then 0xFFFF else 0x0000) = BitVec.ofInt 16 (v.toInt / 2 ^ 16) := by
  have hbounds := toInt_bounds v
  rw [show v.getLsbD 15 = decide (v.toInt < 0) from sign_eq v]
  by_cases hneg : v.toInt < 0
  · have hdiv : v.toInt / 2 ^ 16 = -1 := by omega
    rw [hdiv, decide_eq_true hneg]
    rfl
  · have hdiv : v.toInt / 2 ^ 16 = 0 := by omega
    rw [hdiv, decide_eq_false hneg]
    rfl

/-! ## The obligations on the adjustments -/

/-- Settles O44: the two conditions and what they add or take away; in every case AL and the status flags alone. -/
theorem decimalAdjust : Obligations.DecimalAdjust := by
  intro s
  refine ⟨fun halg => ⟨⟨_, rfl, ?daa⟩, ⟨_, rfl, ?das⟩⟩, ⟨_, rfl, decimalAdjusted_eq ..⟩, ⟨_, rfl, decimalAdjusted_eq ..⟩⟩
  case daa =>
    rw [daaResult_eq]
    exact decimalAdjusted_of_algorithm halg _ _
  case das =>
    rw [dasResult_eq]
    exact decimalAdjusted_of_algorithm halg _ _

/-- AAA and AAS as one: the adjusted halves of AX, or the low nibble of AL alone. -/
theorem asciiAdjusted_eq (s : State) (adjust : Bool) (al ah low : Byte) :
    let t := s.asciiAdjusted (if adjust = true then (al, ah, true) else (low, s.reg8 .ah, false))
    t = ((if adjust = true then (s.setReg8 .al al).setReg8 .ah ah else s.setReg8 .al low).setFlags
      { statusFrom t.flags s.flags with af := adjust, cf := adjust }).withBiu t := by
  cases adjust with
  | true => rfl
  | false =>
    have hput := s.setReg8_al_ah_self low
    dsimp only
    rw [if_neg (by decide), if_neg (by decide), ← hput]
    rfl

/-- Settles O46: with the condition both halves of AX are adjusted, else AH is put back. -/
theorem asciiAdjust : Obligations.AsciiAdjust := by
  refine fun s => ⟨⟨_, rfl, ?aaa⟩, ⟨_, rfl, ?aas⟩⟩
  case aaa =>
    rw [aaaResult_eq]
    exact asciiAdjusted_eq s _ _ _ _
  case aas =>
    rw [aasResult_eq]
    exact asciiAdjusted_eq s _ _ _ _

theorem radixAdjusted_eq (s : State) (ah al : Byte) :
    let t := s.radixAdjusted ah al
    t = (((s.setReg8 .ah ah).setReg8 .al al).setFlags
      { withSzp al s.flags with ofl := t.flags.ofl, af := t.flags.af, cf := t.flags.cf }).withBiu t := by
  dsimp only
  rw [← s.setReg8_al_ah, ← setSzp_eq_withSzp]
  rfl

/-- Settles O47: quotient and remainder or the divide error, the sum, and the sign of AL or AX spread. -/
theorem radixAdjustAndExtend : Obligations.RadixAdjustAndExtend := by
  intro b s
  refine ⟨fun hb => ⟨_, if_pos hb, rfl⟩, fun hb => ⟨_, if_neg hb, radixAdjusted_eq ..⟩, ⟨_, rfl, radixAdjusted_eq ..⟩,
    ?cbw, ?cwd⟩
  case cbw => exact congrArg (fun v => Host.Outcome.next (s.setReg16 .ax v)) (wordOf_sign (s.reg8 .al))
  case cwd => exact congrArg (fun v => Host.Outcome.next (s.setReg16 .dx v)) (sign_word s.gpr.ax)

end Sys2Proof.Machine
end

section
/-! SUPPORT. DAA after an addition of two packed-BCD bytes, digit by digit (41_arithmetic.md R105, R117); then the proof of the
obligation. -/

namespace Sys2Proof.Machine

/-- The packed-BCD byte of the digits `a` and `b`. -/
def bcdByte (a b : Nat) : Byte := BitVec.ofNat 8 (a * 16 + b)

section
variable {a b c d : Nat} (ha : a < 10) (hb : b < 10) (hc : c < 10) (hd : d < 10)
include ha hb hc hd

theorem sumOf_bcdByte : sumOf (bcdByte a b) (bcdByte c d) false = (a + c) * 16 + (b + d) := by
  simp only [sumOf, bcdByte, BitVec.toNat_ofNat, Bool.toNat_false]
  omega

/-- What the addition of two packed-BCD bytes leaves is recognised as such. -/
theorem bcdSum_of_digits :
    bcdSum (BitVec.ofNat 8 ((a + c) * 16 + (b + d))) (decide (16 ≤ b + d)) (decide (256 ≤ (a + c) * 16 + (b + d)))
      = true := by
  have hlow : (b + d + 0) % 16 = (BitVec.ofNat 8 ((a + c) * 16 + (b + d))).toNat % 16 := by
    rw [BitVec.toNat_ofNat]
    omega
  have hhigh : (a + c + (decide (16 ≤ b + d)).toNat) % 16 = (BitVec.ofNat 8 ((a + c) * 16 + (b + d))).toNat / 16 := by
    rw [BitVec.toNat_ofNat]
    by_cases hcarry : 16 ≤ b + d <;> simp only [hcarry, decide_true, decide_false, Bool.toNat_true, Bool.toNat_false] <;>
      omega
  have hcf : decide (15 < a + c + (decide (16 ≤ b + d)).toNat) = decide (256 ≤ (a + c) * 16 + (b + d)) := by
    rw [decide_eq_decide]
    by_cases hcarry : 16 ≤ b + d <;> simp only [hcarry, decide_true, decide_false, Bool.toNat_true, Bool.toNat_false] <;>
      omega
  simp only [bcdSum, Bool.and_eq_true, List.any_eq_true, beq_iff_eq, List.mem_range]
  exact ⟨⟨b, hb, d, hd, 0, by simp, hlow, rfl⟩, a, ha, c, hc, hhigh, hcf⟩

end

/-- Of two sums of digits, DAA makes the packed-BCD byte and the carry of their decimal value. -/
theorem daaResult_of_digits :
    ∀ p < 19, ∀ q < 19,
      daaResult (BitVec.ofNat 8 (p * 16 + q)) (decide (16 ≤ q)) (decide (256 ≤ p * 16 + q))
        = (bcdByte ((p * 10 + q) % 100 / 10) ((p * 10 + q) % 10), decide (100 ≤ p * 10 + q), decide (10 ≤ q)) := by
  decide

/-- Where AL, AF and CF are those of a sum of packed-BCD bytes, DAA does not draw its result. -/
theorem daa_of_bcdSum {u : State} (h : bcdSum (u.reg8 .al) u.flags.af u.flags.cf = true) :
    ∃ t, exec .daa u = .next t ∧ t.reg8 .al = (daaResult (u.reg8 .al) u.flags.af u.flags.cf).1
      ∧ t.flags.cf = (daaResult (u.reg8 .al) u.flags.af u.flags.cf).2.1 := by
  refine ⟨_, rfl, ?_⟩
  rw [State.decimalAdjusted, if_neg (by simp [h])]
  exact ⟨Gprs.get8_set8_same .., rfl⟩

/-- AL, AF and CF after ADD AL,Ib. -/
theorem add_alIb {s u : State} {i : Byte} (h : exec (.add (.alIb i)) s = .next u) :
    u.reg8 .al = BitVec.ofNat 8 (sumOf (s.reg8 .al) i false)
      ∧ u.flags.af = decide (16 ≤ (s.reg8 .al).toNat % 16 + i.toNat % 16)
      ∧ u.flags.cf = decide (256 ≤ sumOf (s.reg8 .al) i false) := by
  obtain rfl := Host.Outcome.next.inj h
  exact ⟨Gprs.get8_set8_same .., nibbleCarry_sum (.inl rfl) _ _ _, rfl⟩

/-- Settles O45: AL, AF and CF hold the sums of the digits, and DAA carries them in tens. -/
theorem decimalAddition : Obligations.DecimalAddition := by
  intro x y s u hx hy hal hadd
  change s.reg8 .al = bcdByte (x / 10) (x % 10) at hal
  change exec (.add (.alIb (bcdByte (y / 10) (y % 10)))) s = .next u at hadd
  have ha : x / 10 < 10 := by omega
  have hb : x % 10 < 10 := by omega
  have hc : y / 10 < 10 := by omega
  have hd : y % 10 < 10 := by omega
  obtain ⟨hsum, haf, hcf⟩ := add_alIb hadd
  have hnibble : (bcdByte (x / 10) (x % 10)).toNat % 16 + (bcdByte (y / 10) (y % 10)).toNat % 16 = x % 10 + y % 10 := by
    simp only [bcdByte, BitVec.toNat_ofNat]
    omega
  rw [hal, sumOf_bcdByte ha hb hc hd] at hsum hcf
  rw [hal, hnibble] at haf
  have hbcd := bcdSum_of_digits ha hb hc hd
  rw [← hsum, ← haf, ← hcf] at hbcd
  obtain ⟨t, hexec, hal', hcf'⟩ := daa_of_bcdSum hbcd
  rw [hsum, haf, hcf, daaResult_of_digits _ (by omega) _ (by omega)] at hal' hcf'
  have hvalue : (x / 10 + y / 10) * 10 + (x % 10 + y % 10) = x + y := by omega
  rw [hvalue] at hal' hcf'
  exact ⟨t, hexec, hal', hcf'⟩

end Sys2Proof.Machine
end

section
/-! SUPPORT. The shifts and rotates in closed form: each one-bit step moves the bits by one place, so that `n` steps are the
rotation or shift by `n` (42_logic_shift.md R130 to R137). Then the proof of the obligation. -/

namespace Sys2Proof.Machine

/-! ## Repetition -/

/-- The last of the repetitions of R130. -/
theorem shiftN_succ {w : Nat} (op : ShiftOp) (n : Nat) (p : BitVec w × Bool) :
    shiftN op (n + 1) p = shiftStep op (shiftN op n p) := by
  induction n generalizing p with
  | zero => rfl
  | succ n ih => exact ih (shiftStep op p)

section
variable {w : Nat}

/-! ## One place -/

/-- A bit moved in from below. -/
theorem getLsbD_shiftLeft_or {i : Nat} (x : BitVec w) (b : Bool) (hi : i < w) :
    (x <<< 1 ||| bif b then 1 else 0).getLsbD i = if i = 0 then b else x.getLsbD (i - 1) := by
  by_cases h0 : i = 0
  · subst h0
    cases b <;> simp [hi]
  · have hlow : (bif b then 1 else 0 : BitVec w).getLsbD i = false := by cases b <;> simp [h0]
    have hnot : ¬ i < 1 := by omega
    rw [BitVec.getLsbD_or, hlow, BitVec.getLsbD_shiftLeft, if_neg h0]
    simp [hi, hnot]

/-- A bit moved in from above. -/
theorem getLsbD_shiftRight_or {i : Nat} (x : BitVec w) (b : Bool) (hi : i < w) :
    (x >>> 1 ||| bif b then BitVec.ofNat w (2 ^ (w - 1)) else 0).getLsbD i
      = if i = w - 1 then b else x.getLsbD (i + 1) := by
  have hhigh : (bif b then BitVec.ofNat w (2 ^ (w - 1)) else 0).getLsbD i = (b && decide (i = w - 1)) := by
    cases b
    · simp
    · rw [cond_true, BitVec.getLsbD_ofNat, Nat.testBit_two_pow]
      simp [hi, eq_comm]
  rw [BitVec.getLsbD_or, hhigh, BitVec.getLsbD_ushiftRight]
  by_cases htop : i = w - 1
  · rw [BitVec.getLsbD_of_ge x (1 + i) (by omega)]
    simp [htop]
  · simp [htop, Nat.add_comm]

/-- The bit of a rotation is one bit of the operand. -/
theorem getLsbD_rotateLeft_eq (x : BitVec w) (n : Nat) {i : Nat} (hi : i < w) :
    (x.rotateLeft n).getLsbD i = x.getLsbD (if i < n % w then w - n % w + i else i - n % w) := by
  rw [BitVec.getLsbD_rotateLeft, Bool.cond_decide, decide_eq_true hi, Bool.true_and, apply_ite x.getLsbD]

theorem getLsbD_rotateRight_eq (x : BitVec w) (n : Nat) {i : Nat} (hi : i < w) :
    (x.rotateRight n).getLsbD i = x.getLsbD (if i < w - n % w then n % w + i else i - (w - n % w)) := by
  rw [BitVec.getLsbD_rotateRight, Bool.cond_decide, decide_eq_true hi, Bool.true_and, apply_ite x.getLsbD]

theorem rotateLeft_zero (x : BitVec w) : x.rotateLeft 0 = x := by
  apply BitVec.eq_of_getLsbD_eq
  intro i hi
  rw [getLsbD_rotateLeft_eq _ _ hi, Nat.zero_mod, if_neg (Nat.not_lt_zero i), Nat.sub_zero]

theorem rotateRight_zero (x : BitVec w) : x.rotateRight 0 = x := by
  apply BitVec.eq_of_getLsbD_eq
  intro i hi
  rw [getLsbD_rotateRight_eq _ _ hi, Nat.zero_mod, Nat.sub_zero, if_pos hi, Nat.zero_add]

variable (hw : 1 < w)
include hw

theorem getLsbD_rotateLeft_one {i : Nat} (x : BitVec w) (hi : i < w) :
    (x.rotateLeft 1).getLsbD i = if i = 0 then x.getLsbD (w - 1) else x.getLsbD (i - 1) := by
  rw [BitVec.getLsbD_rotateLeft, Nat.mod_eq_of_lt hw]
  by_cases h0 : i = 0
  · simp [h0]
  · have hnot : ¬ i < 1 := by omega
    simp [h0, hnot, hi]

theorem getLsbD_rotateRight_one {i : Nat} (x : BitVec w) (hi : i < w) :
    (x.rotateRight 1).getLsbD i = if i = w - 1 then x.getLsbD 0 else x.getLsbD (i + 1) := by
  rw [BitVec.getLsbD_rotateRight, Nat.mod_eq_of_lt hw]
  by_cases htop : i = w - 1
  · simp [htop, Nat.zero_lt_of_lt hw]
  · have hlt : i < w - 1 := by omega
    simp [htop, hlt, Nat.add_comm]

theorem succ_mod (n : Nat) : (n + 1) % w = if n % w + 1 = w then 0 else n % w + 1 := by
  have hlt := Nat.mod_lt n (by omega : 0 < w)
  rw [Nat.add_mod, Nat.mod_eq_of_lt hw]
  split
  · next h => rw [h, Nat.mod_self]
  · exact Nat.mod_eq_of_lt (by omega)

theorem rotateLeft_succ (x : BitVec w) (n : Nat) : x.rotateLeft (n + 1) = (x.rotateLeft n).rotateLeft 1 := by
  have hr := Nat.mod_lt n (by omega : 0 < w)
  apply BitVec.eq_of_getLsbD_eq
  intro i hi
  rw [getLsbD_rotateLeft_one hw _ hi, getLsbD_rotateLeft_eq _ _ hi, getLsbD_rotateLeft_eq _ _ (by omega),
    getLsbD_rotateLeft_eq _ _ (by omega), ← apply_ite x.getLsbD, succ_mod hw]
  congr 1
  split_ifs <;> omega

theorem rotateRight_succ (x : BitVec w) (n : Nat) : x.rotateRight (n + 1) = (x.rotateRight n).rotateRight 1 := by
  have hr := Nat.mod_lt n (by omega : 0 < w)
  apply BitVec.eq_of_getLsbD_eq
  intro i hi
  rw [getLsbD_rotateRight_one hw _ hi]
  by_cases htop : i = w - 1
  · rw [if_pos htop, getLsbD_rotateRight_eq _ _ hi, getLsbD_rotateRight_eq _ _ (by omega), succ_mod hw]
    congr 1
    split_ifs <;> omega
  · rw [if_neg htop, getLsbD_rotateRight_eq _ _ hi, getLsbD_rotateRight_eq _ _ (by omega), succ_mod hw]
    congr 1
    split_ifs <;> omega

/-! ## The steps of R131 to R137 -/

theorem shiftStep_rol_fst (p : BitVec w × Bool) : (shiftStep .rol p).1 = p.1.rotateLeft 1 := by
  apply BitVec.eq_of_getLsbD_eq
  intro i hi
  rw [getLsbD_rotateLeft_one hw _ hi]
  exact getLsbD_shiftLeft_or p.1 _ hi

theorem shiftStep_ror_fst (p : BitVec w × Bool) : (shiftStep .ror p).1 = p.1.rotateRight 1 := by
  apply BitVec.eq_of_getLsbD_eq
  intro i hi
  rw [getLsbD_rotateRight_one hw _ hi]
  exact getLsbD_shiftRight_or p.1 _ hi

theorem shiftStep_sar_fst (p : BitVec w × Bool) : (shiftStep .sar p).1 = p.1.sshiftRight 1 := by
  apply BitVec.eq_of_getLsbD_eq
  intro i hi
  refine (getLsbD_shiftRight_or p.1 _ hi).trans ?_
  rw [BitVec.getLsbD_sshiftRight, BitVec.msb_eq_getLsbD_last, decide_eq_false (by omega), Bool.not_false, Bool.true_and]
  by_cases htop : i = w - 1
  · rw [if_pos htop, if_neg (by omega)]
  · rw [if_neg htop, if_pos (by omega), Nat.add_comm]

/-- CF as the bit above the operand. -/
def packCf (p : BitVec w × Bool) : BitVec (w + 1) :=
  p.1.setWidth (w + 1) ||| BitVec.ofNat (w + 1) (2 ^ w * p.2.toNat)

omit hw in
theorem getLsbD_packCf (p : BitVec w × Bool) {i : Nat} (hi : i < w + 1) :
    (packCf p).getLsbD i = if i = w then p.2 else p.1.getLsbD i := by
  obtain ⟨x, cf⟩ := p
  have hcf : (BitVec.ofNat (w + 1) (2 ^ w * cf.toNat)).getLsbD i = (cf && decide (i = w)) := by
    cases cf
    · simp
    · rw [Bool.toNat_true, Nat.mul_one, BitVec.getLsbD_ofNat, Nat.testBit_two_pow]
      simp [hi, eq_comm]
  rw [packCf, BitVec.getLsbD_or, hcf, BitVec.getLsbD_setWidth]
  by_cases htop : i = w
  · simp [htop]
  · simp [htop, hi]

omit hw in
theorem eq_of_packCf (p : BitVec w × Bool) : p = ((packCf p).setWidth w, (packCf p).getLsbD w) := by
  refine Prod.ext (BitVec.eq_of_getLsbD_eq fun i hi => ?_) ?_
  · rw [BitVec.getLsbD_setWidth, getLsbD_packCf p (by omega), if_neg (by omega), decide_eq_true hi, Bool.true_and]
  · rw [getLsbD_packCf p (by omega), if_pos rfl]

theorem packCf_shiftStep_rcl (p : BitVec w × Bool) : packCf (shiftStep .rcl p) = (packCf p).rotateLeft 1 := by
  apply BitVec.eq_of_getLsbD_eq
  intro i hi
  rw [getLsbD_rotateLeft_one (by omega) _ hi, getLsbD_packCf _ hi, getLsbD_packCf _ (by omega),
    getLsbD_packCf _ (by omega)]
  by_cases htop : i = w
  · rw [if_pos htop, if_neg (by omega), if_neg (by omega), htop]
    rfl
  · refine (if_neg htop).trans ((getLsbD_shiftLeft_or p.1 p.2 (by omega)).trans ?_)
    exact if_congr Iff.rfl (if_pos (by omega)).symm (if_neg (by omega)).symm

theorem packCf_shiftStep_rcr (p : BitVec w × Bool) : packCf (shiftStep .rcr p) = (packCf p).rotateRight 1 := by
  apply BitVec.eq_of_getLsbD_eq
  intro i hi
  rw [getLsbD_rotateRight_one (by omega) _ hi, getLsbD_packCf _ hi, getLsbD_packCf _ (by omega)]
  by_cases htop : i = w
  · rw [if_pos htop, if_pos (by omega), if_neg (by omega)]
    rfl
  · rw [if_neg (by omega : ¬ i = w + 1 - 1), getLsbD_packCf _ (by omega)]
    refine (if_neg htop).trans ((getLsbD_shiftRight_or p.1 p.2 (by omega)).trans ?_)
    exact if_congr (by omega) rfl rfl

/-! ## `n` steps -/

theorem shiftN_rol_fst (n : Nat) (p : BitVec w × Bool) : (shiftN .rol n p).1 = p.1.rotateLeft n := by
  induction n with
  | zero => exact (rotateLeft_zero p.1).symm
  | succ n ih => rw [shiftN_succ, shiftStep_rol_fst hw, ih, rotateLeft_succ hw p.1 n]

theorem shiftN_ror_fst (n : Nat) (p : BitVec w × Bool) : (shiftN .ror n p).1 = p.1.rotateRight n := by
  induction n with
  | zero => exact (rotateRight_zero p.1).symm
  | succ n ih => rw [shiftN_succ, shiftStep_ror_fst hw, ih, rotateRight_succ hw p.1 n]

theorem packCf_shiftN_rcl (n : Nat) (p : BitVec w × Bool) : packCf (shiftN .rcl n p) = (packCf p).rotateLeft n := by
  induction n with
  | zero => exact (rotateLeft_zero (packCf p)).symm
  | succ n ih => rw [shiftN_succ, packCf_shiftStep_rcl hw, ih, rotateLeft_succ (by omega) (packCf p) n]

theorem packCf_shiftN_rcr (n : Nat) (p : BitVec w × Bool) : packCf (shiftN .rcr n p) = (packCf p).rotateRight n := by
  induction n with
  | zero => exact (rotateRight_zero (packCf p)).symm
  | succ n ih => rw [shiftN_succ, packCf_shiftStep_rcr hw, ih, rotateRight_succ (by omega) (packCf p) n]

omit hw in
theorem shiftN_shl_fst (n : Nat) (p : BitVec w × Bool) : (shiftN .shl n p).1 = p.1 <<< n := by
  induction n with
  | zero => exact (BitVec.shiftLeft_zero p.1).symm
  | succ n ih =>
    rw [shiftN_succ, BitVec.shiftLeft_add, ← ih]
    rfl

omit hw in
theorem shiftN_shr_fst (n : Nat) (p : BitVec w × Bool) : (shiftN .shr n p).1 = p.1 >>> n := by
  induction n with
  | zero => exact (BitVec.ushiftRight_zero p.1).symm
  | succ n ih =>
    rw [shiftN_succ, BitVec.shiftRight_add, ← ih]
    rfl

theorem shiftN_sar_fst (n : Nat) (p : BitVec w × Bool) : (shiftN .sar n p).1 = p.1.sshiftRight n := by
  induction n with
  | zero => exact (BitVec.sshiftRight_zero).symm
  | succ n ih => rw [shiftN_succ, shiftStep_sar_fst hw, ih, BitVec.sshiftRight_add]

/-- CF takes the bit that the last step moves out. -/
theorem shiftN_eq_shiftClosed (op : ShiftOp) {n : Nat} (hn : 0 < n) (x : BitVec w) (cf : Bool) :
    shiftN op n (x, cf) = shiftClosed op x cf n := by
  obtain ⟨n, rfl⟩ : ∃ m, n = m + 1 := ⟨n - 1, by omega⟩
  cases op with
  | rol =>
    refine Prod.ext (shiftN_rol_fst hw _ _) ?_
    rw [shiftN_succ]
    change (shiftN .rol n (x, cf)).1.getLsbD (w - 1) = (x.rotateLeft (n + 1)).getLsbD 0
    rw [shiftN_rol_fst hw, rotateLeft_succ hw x n, getLsbD_rotateLeft_one hw _ (by omega), if_pos rfl]
  | ror =>
    refine Prod.ext (shiftN_ror_fst hw _ _) ?_
    rw [shiftN_succ]
    change (shiftN .ror n (x, cf)).1.getLsbD 0 = (x.rotateRight (n + 1)).getLsbD (w - 1)
    rw [shiftN_ror_fst hw, rotateRight_succ hw x n, getLsbD_rotateRight_one hw _ (by omega), if_pos rfl]
  | rcl =>
    rw [eq_of_packCf (shiftN _ _ _), packCf_shiftN_rcl hw]
    rfl
  | rcr =>
    rw [eq_of_packCf (shiftN _ _ _), packCf_shiftN_rcr hw]
    rfl
  | shl =>
    refine Prod.ext (shiftN_shl_fst _ _) ?_
    rw [shiftN_succ]
    change (shiftN .shl n (x, cf)).1.getLsbD (w - 1) = (decide (n + 1 ≤ w) && x.getLsbD (w - (n + 1)))
    have hpos : w - 1 - n = w - (n + 1) := by omega
    have hfits : (decide (w - 1 < w) && !decide (w - 1 < n)) = decide (n + 1 ≤ w) := by
      rw [← decide_not, ← Bool.decide_and, decide_eq_decide]
      omega
    rw [shiftN_shl_fst, BitVec.getLsbD_shiftLeft, hpos, hfits]
  | shr =>
    refine Prod.ext (shiftN_shr_fst _ _) ?_
    rw [shiftN_succ]
    change (shiftN .shr n (x, cf)).1.getLsbD 0 = x.getLsbD n
    rw [shiftN_shr_fst, BitVec.getLsbD_ushiftRight, Nat.add_zero]
  | sar =>
    refine Prod.ext (shiftN_sar_fst hw _ _) ?_
    rw [shiftN_succ]
    change (shiftN .sar n (x, cf)).1.getLsbD 0 = x.getLsbD (min n (w - 1))
    rw [shiftN_sar_fst hw, BitVec.getLsbD_sshiftRight, BitVec.msb_eq_getLsbD_last, decide_eq_false (by omega),
      Bool.not_false, Bool.true_and, ← apply_ite x.getLsbD]
    congr 1
    split <;> omega

end

/-! ## The obligation -/

theorem shiftOf_eq {w : Nat} (op : ShiftOp) (x r : BitVec w) (cf : Bool) :
    shiftOf op x r cf = shiftOverflow op x r cf := by
  cases op <;> simp only [shiftOf, shiftOverflow, Bool.bne_eq_xor]

theorem Place.put_setFlags {w : Nat} (p : Place w) (v : BitVec w) (s : State) (f : Flags) :
    p.put v (s.setFlags f) = (p.put v s).setFlags f := by
  cases p <;> rfl

/-- The flags at the end of a shift by `n`, CF being written before them. -/
theorem State.shiftFlagged_eq {w : Nat} {u : State} {f : Flags} (op : ShiftOp) (n : Nat) (x : BitVec w)
    (hu : u.flags = { f with cf := (shiftClosed op x f.cf n).2 }) :
    let t := u.shiftFlagged op n x (shiftClosed op x f.cf n).1
    t = (u.setFlags (shiftFlagsAfter op x n t.flags f)).withBiu t := by
  dsimp only
  rw [State.shiftFlagged, hu, shiftOf_eq, setSzp_eq_withSzp]
  simp only [shiftFlagsAfter]
  by_cases hn : n = 1
  · simp only [if_pos hn]
    cases op <;> rfl
  · simp only [if_neg hn]
    cases op <;> rfl

theorem shiftOn_answers {w : Nat} {op : ShiftOp} {p : Place w} {n : Nat} {s : State} (hn : 0 < n) (h : s.accepts) :
    (shiftOn op p n s).Answers fun _ t =>
      t = ((p.put (shiftClosed op (p.val s) s.flags.cf n).1 s).setFlags
        (shiftFlagsAfter op (p.val s) n t.flags s.flags)).withBiu t := by
  have hw : 1 < w := by rcases p.width with rfl | rfl <;> decide
  refine p.read_bind h fun b => ?_
  rw [if_neg (by omega)]
  dsimp only
  rw [show shiftN op n (p.val s, (s.withBiu b).flags.cf) = _ from shiftN_eq_shiftClosed hw op hn _ _]
  refine p.write_bind _ (State.accepts_of_eq h rfl) fun b' => ?_
  rw [p.put_setFlags, p.put_withBiu]
  exact State.shiftFlagged_eq op n (p.val s) rfl

/-- A count of 0 reads the operand alone. -/
theorem shiftOn_zero_answers {w : Nat} (op : ShiftOp) (p : Place w) {s : State} (h : s.accepts) :
    (shiftOn op p 0 s).Answers fun _ t => ∃ b, t = s.withBiu b :=
  p.read_bind h fun b => ⟨b, rfl⟩

theorem exec_shiftRow (op : ShiftOp) (f : ShiftForm) (s : State) : exec (shiftRow op f) s = (shift op f s).out := by
  cases op <;> rfl

/-- The four rows differ in the place and the count alone. -/
theorem overShift_of_shiftOn {op : ShiftOp} {f : ShiftForm} {s : State} {P : (w : Nat) → Place w → Nat → Prop}
    (h : ∀ (w : Nat) (p : Place w) (n : Nat), shift op f s = shiftOn op p n s → P w p n) : overShift f s P := by
  cases f <;> exact h _ _ _ rfl

/-- Settles O49: `n` one-bit steps are the rotation or shift by `n`, with its flags. -/
theorem shiftForms : Obligations.ShiftForms := by
  refine fun op f s h => overShift_of_shiftOn (op := op) fun w p n hf => ⟨fun hn => ?_, fun hn => ?_⟩
  · subst hn
    exact .of_answers ((exec_shiftRow op f s).trans (congrArg Res.out hf)) (shiftOn_zero_answers op p h)
  · exact .of_res ((exec_shiftRow op f s).trans (congrArg Res.out hf)) (shiftOn_answers hn h)

end Sys2Proof.Machine
end

section
/-! SUPPORT. One element of a string instruction on an accepting bus, and the end of a repetition (43_string.md R138 to R146).
Then the proof of the obligation. -/

namespace Sys2Proof.Machine

/-! ## One element -/

/-- SI and DI go by the element size, up or down (R138). -/
theorem advance_eq (n : StrWidth) (s : State) (v : Word) : advance n s v = v + n.delta s := by
  have hdown (d : Word) : v + (0 - d) = v - d := by rw [zero_sub, ← sub_eq_add_neg]
  simp only [advance, StrWidth.delta]
  cases s.flags.df with
  | false => cases n <;> rfl
  | true => cases n <;> exact (hdown _).symm

section
variable {s : State}

/-- The element's own effect, with the moves of SI and DI made last, as the machine makes them. -/
theorem StrOp.element_answers (o : StrOp) (n : StrWidth) (h : s.accepts) :
    (o.element n s).Answers fun _ t => ∃ b, t = (o.effect n s).withBiu b := by
  cases o <;> simp only [StrOp.effect, advance_eq]
  case movs =>
    refine (srcElem n s).read_bind h fun b => (dstElem n s).write_bind _ (State.accepts_of_eq h rfl) fun b' => ⟨b', ?_⟩
    cases n <;> rfl
  case cmps =>
    refine (srcElem n s).read_bind h fun b => (dstElem n s).read_bind (State.accepts_of_eq h rfl) fun b' => ?_
    rw [Place.val_withBiu, ← subFlags_eq_differenceFlags (dstElem n s).width]
    exact ⟨_, rfl⟩
  case scas =>
    refine (dstElem n s).read_bind h fun b => n.acc.read_bind (State.accepts_of_eq h rfl) fun b' => ?_
    rw [Place.val_withBiu, ← subFlags_eq_differenceFlags (dstElem n s).width]
    exact ⟨_, rfl⟩
  case lods =>
    refine (srcElem n s).read_bind h fun b => n.acc.write_bind _ (State.accepts_of_eq h rfl) fun b' => ⟨b', ?_⟩
    cases n <;> rfl
  case stos =>
    refine n.acc.read_bind h fun b => (dstElem n s).write_bind _ (State.accepts_of_eq h rfl) fun b' => ⟨b', ?_⟩
    cases n <;> rfl

/-- An element leaves CX and what was found in front of the instruction. -/
theorem StrOp.effect_keeps (o : StrOp) (n : StrWidth) :
    (o.effect n s).gpr.cx = s.gpr.cx ∧ (o.effect n s).pfx = s.pfx := by
  cases o <;> cases n <;> exact ⟨rfl, rfl⟩

/-- The machine's test for the end of a repetition is the one of R140. -/
theorem StrOp.ends_iff (o : StrOp) (k : RepKind) (u : State) :
    o.ends k u.gpr.cx u.flags.zf ↔ repDone o.compares k u = true := by
  cases k <;> simp [StrOp.ends, repDone]

/-! ## One unit of work -/

variable {o : StrOp} {n : StrWidth}

theorem stringUnit_answers_once (h : s.accepts) (hrep : s.pfx.rep = none) :
    (stringUnit (o.instr n) o.compares (o.element n) s).Answers fun _ t =>
      ∃ b, t = ({ o.effect n s with ip := s.decodePos } : State).withBiu b := by
  rw [stringUnit, hrep]
  exact (o.element_answers n h).bind fun _ t ⟨b, ht⟩ => ⟨b, by rw [ht]; rfl⟩

theorem stringUnit_answers_ended {k : RepKind} (hrep : s.pfx.rep = some k) (hcx : s.gpr.cx = 0) :
    (stringUnit (o.instr n) o.compares (o.element n) s).Answers fun _ t =>
      ∃ b, t = ({ s with rep := none, ip := s.decodePos } : State).withBiu b := by
  rw [stringUnit, hrep]
  simp only [if_pos hcx]
  exact ⟨s, rfl⟩

/-- CX counts the element, and then the repetition ends or goes on. -/
theorem stringUnit_answers_counted {k : RepKind} (h : s.accepts) (hrep : s.pfx.rep = some k) (hcx : s.gpr.cx ≠ 0) :
    (stringUnit (o.instr n) o.compares (o.element n) s).Answers fun _ t =>
      ∃ b, t =
        (if repDone o.compares k ((o.effect n s).setReg16 .cx (s.gpr.cx - 1)) = true then
          { (o.effect n s).setReg16 .cx (s.gpr.cx - 1) with rep := none, ip := s.decodePos }
        else { (o.effect n s).setReg16 .cx (s.gpr.cx - 1) with
          rep := some ⟨o.instr n, s.pfx, s.decodePos⟩, ip := s.pfx.start } : State).withBiu b := by
  obtain ⟨hcount, hpfx⟩ := o.effect_keeps n (s := s)
  rw [stringUnit, hrep]
  simp only [if_neg hcx]
  refine (o.element_answers n h).bind fun _ t ⟨b, ht⟩ => ⟨b, ?_⟩
  subst ht
  rw [← hcount, ← hpfx, apply_ite (State.withBiu · b)]
  rfl

end

/-- Settles O50: one element, and the repetition ends or goes on by CX and ZF after it. -/
theorem stringUnit_repeats : Obligations.StringUnit := by
  intro o n s h
  refine ⟨fun hrep => .of_answers (exec_strOp o n s) (stringUnit_answers_once h hrep), fun k hrep =>
    ⟨fun hcx => .of_answers (exec_strOp o n s) (stringUnit_answers_ended hrep hcx), fun hcx => ?_⟩⟩
  have hunit := stringUnit_answers_counted (o := o) (n := n) h hrep hcx
  refine ⟨fun hends => .of_answers (exec_strOp o n s) ?_, fun hgoes => .of_answers (exec_strOp o n s) ?_⟩
  · rwa [if_pos ((o.ends_iff k _).1 hends)] at hunit
  · rwa [if_neg (mt (o.ends_iff k _).2 hgoes)] at hunit

end Sys2Proof.Machine
end
